-- ==== Sys2Proof/Word.lean ====
section
/-! DEFINITION. The word types of the block and the five working variables of its MAC unit (00_scope.md R10). -/

namespace Sys2Proof

/-- A byte: the data of the register window, and of every buffer behind it (R10, R20). -/
abbrev Byte := BitVec 8

/-- A window address, 0x00 to 0xFF (R20). -/
abbrev Addr := BitVec 8

/-- The CRC accumulator and the received checksum (R10). -/
abbrev Half := BitVec 16

/-- A MAC word, a working variable or a schedule word (R10). -/
abbrev Word := BitVec 32

/-- A bus transaction word `BT` (30_encoding.md R80). -/
abbrev BusWord := BitVec 17

/-- The five working variables of the compression function (00_scope.md R15). -/
structure Work where
  a : Word
  b : Word
  c : Word
  d : Word
  e : Word
deriving DecidableEq, Repr, Inhabited

/-- The hidden state of the MAC agent (10_state.md R36): the working variables, the schedule
and the round counter, in 0..80. -/
structure MacHidden where
  work  : Work
  sched : Vector Word 80
  round : Fin 81
deriving DecidableEq, Repr, Inhabited

end Sys2Proof
end

