-- ==== Sys2Proof/Syntax.lean ====
section
/-! DEFINITION. The instructions: one constructor per row of spec/opcode_table.json. An instruction of this block is
one host bus transaction (30_encoding.md R80). -/

namespace Sys2Proof

/-- The host bus transactions, in the order of the opcode table (30_encoding.md R83, R85). -/
inductive Instr where
  /-- `NOP` (R180). -/
  | nop
  /-- `CRC_INIT` (R104). -/
  | crcInit
  /-- `CRC_CHECK` (R106). -/
  | crcCheck
  /-- `CLR_ERR` (R181). -/
  | clrErr
  /-- `MAC_ASSEMBLE` (R140). -/
  | macAssemble
  /-- `MAC_RUN` (R141). -/
  | macRun
  /-- `MAC_GEN` (R142). -/
  | macGen
  /-- `CMD_UNDEF`: a write to CMD of a code that is not one of the seven (R85). -/
  | cmdUndef (code : Byte)
  /-- `CRC_FEED`: a write of one byte to CRC_DIN (R103). -/
  | crcFeed (d : Byte)
  /-- `WR`: a write of `d` to any address but CMD and CRC_DIN (R182). -/
  | wr (a : Addr) (d : Byte)
  /-- `RD`: a read; the DATA bits of the word are ignored (R86, R183), so they are no operand. -/
  | rd (a : Addr)
deriving DecidableEq, Repr

end Sys2Proof
end

