-- ==== Sys2Proof/WellFormed.lean ====
section
/-! DEFINITION. Which terms of Instr some bus transaction word stands for (30_encoding.md R82, R85). -/

namespace Sys2Proof

/-- The seven defined command codes, as R83 and R84 list them. -/
def definedCodes : List Byte := [0x00, 0x01, 0x02, 0x03, 0x10, 0x11, 0x12]

/-- The check: a CMD_UNDEF code is none of the seven (R85), and WR does not address CMD or
CRC_DIN, whose writes are commands and feeds (R82). -/
def Instr.wf : Instr → Bool
  | .nop => true
  | .crcInit => true
  | .crcCheck => true
  | .clrErr => true
  | .macAssemble => true
  | .macRun => true
  | .macGen => true
  | .cmdUndef c => !definedCodes.contains c
  | .crcFeed _ => true
  | .wr a _ => a != 0x00 && a != 0x04
  | .rd _ => true

/-- The instruction is one that a bus transaction word stands for. -/
abbrev Instr.WellFormed (i : Instr) : Prop := i.wf = true

end Sys2Proof
end

