-- ==== Sys2Proof/Decode.lean ====
section
/-! DEFINITION. The 17-bit bus transaction word (30_encoding.md R80): its fields, the total decoder in the order of
R82, and after it the encoder. -/

namespace Sys2Proof

/-- Field WE, bit 16: true for a host write (R80). -/
def BusWord.we (w : BusWord) : Bool := w.getLsbD 16

/-- Field ADDR, bits 15:8 (R80). -/
def BusWord.addr (w : BusWord) : Addr := w.extractLsb' 8 8

/-- Field DATA, bits 7:0 (R80). -/
def BusWord.data (w : BusWord) : Byte := w.extractLsb' 0 8

/-- The command that a write of code `c` to CMD issues: the table of R83; every other code is
the undefined-command class (R85). -/
def decodeCommand (c : Byte) : Instr :=
  if c = 0x00 then .nop
  else if c = 0x01 then .crcInit
  else if c = 0x02 then .crcCheck
  else if c = 0x03 then .clrErr
  else if c = 0x10 then .macAssemble
  else if c = 0x11 then .macRun
  else if c = 0x12 then .macGen
  else .cmdUndef c

/-- Decode, total on all 2^17 words, in the order of R82. -/
def decode (w : BusWord) : Instr :=
  if BusWord.we w = false then .rd (BusWord.addr w)
  else if BusWord.addr w = 0x00 then decodeCommand (BusWord.data w)
  else if BusWord.addr w = 0x04 then .crcFeed (BusWord.data w)
  else .wr (BusWord.addr w) (BusWord.data w)

/-- Why a number is no bus transaction word. -/
inductive DecodeError where
  /-- A bit above bit 16 is set, and the bus has none there (R80). Safe: nothing runs (log 13). -/
  | widerThanTheBus (w : Nat)
deriving DecidableEq, Repr

/-- Decode a number, such as one held in whole bytes: it stands for a word if it fits in 17 bits (log 13). -/
def decodeNat (w : Nat) : Except DecodeError Instr :=
  if w < 2 ^ 17 then .ok (decode (BitVec.ofNat 17 w)) else .error (.widerThanTheBus w)

/-- The host's question of an opcode-table row: what the decoder reads from the bits `w`. All
words have one length (R80), so `nbits` decides nothing. -/
def decodeTableWord (_nbits w : Nat) : Option Instr := (decodeNat w).toOption

/-- A bus transaction word from its three fields (R80). -/
def busWord (we : Bool) (a : Addr) (d : Byte) : BusWord := BitVec.ofBool we ++ a ++ d

/-- The canonical word of an instruction (R83): a command is a write of its code to CMD, and a
read has DATA = 0x00 (R80). -/
def encode : Instr → BusWord
  | .nop => busWord true 0x00 0x00
  | .crcInit => busWord true 0x00 0x01
  | .crcCheck => busWord true 0x00 0x02
  | .clrErr => busWord true 0x00 0x03
  | .macAssemble => busWord true 0x00 0x10
  | .macRun => busWord true 0x00 0x11
  | .macGen => busWord true 0x00 0x12
  | .cmdUndef c => busWord true 0x00 c
  | .crcFeed d => busWord true 0x04 d
  | .wr a d => busWord true a d
  | .rd a => busWord false a 0x00

end Sys2Proof
end

