-- ==== Sys2Proof/Config.lean ====
section
/-! DEFINITION. What a build of the block fixes (00_scope.md R6 to R8), and the free values: the bytes and the hidden
state that the spec leaves unspecified. -/

namespace Sys2Proof.Config

/-- The parameters one build of the block fixes. They stand in State as configuration that
no step changes, so that a statement about every state is a statement about every build
(log 7). -/
structure Build where
  /-- `CRC_PRESENT` (R6). -/
  crcPresent : Bool
  /-- `MAC_PAD`, Authentication Message bytes 52 to 63 (R8). -/
  macPad : Vector Byte 12
  /-- Parameter `CRC_STEP` (R7), given as the points (c, v) at which the build's function
  differs from the default of R100, each with the value there; the empty list is the default.
  Its domain is finite, so every function is some list (log 9). -/
  crcStepTable : List ((Half × Byte) × Half)
deriving DecidableEq, Repr, Inhabited

/-- The byte a MACOUT read returns while BUSY = 1: an unspecified byte, drawn freely for each
read (20_memory.md R64). The argument is the number of the draw. No body: any byte (log 3). -/
opaque freeByte : Nat → Byte

/-- The hidden MAC state where the spec fixes no value of it: while BUSY = 1
(10_state.md R36) and after a reset event (70_reset_and_hazards.md R230). The argument is the
number of the draw. No body: any value (log 5). -/
opaque freeHidden : Nat → MacHidden

end Sys2Proof.Config
end

