-- ==== Sys2Proof/Machine/Params.lean ====
section
/-! DEFINITION. The default values of the build parameters CRC_PRESENT, CRC_STEP and MAC_PAD, and the CRC_STEP
function of any build (00_scope.md R6 to R8, 40_crc16.md R100). -/

namespace Sys2Proof.Machine

/-- One bit of the default CRC_STEP: shift right, and XOR 0xA001 if the bit shifted out is 1 (R100). -/
def crcStepBit (c : Half) : Half := if c.getLsbD 0 then (c >>> 1) ^^^ 0xA001 else c >>> 1

/-- `n` bits of the default CRC_STEP. -/
def crcStepBits : Nat → Half → Half
  | 0, c => c
  | n + 1, c => crcStepBits n (crcStepBit c)

/-- The default CRC_STEP: the 1-Wire CRC16, least-significant bit first (R100). UNVERIFIED: the
spec gives this value from general knowledge (G1), unsafe (log 8). -/
def crcStepDefault (c : Half) (v : Byte) : Half := crcStepBits 8 (c ^^^ v.zeroExtend 16)

/-- CRC_STEP of a build (R7): the default but where the build's table says otherwise (log 9). -/
def crcStepOf (b : Config.Build) (c : Half) (v : Byte) : Half :=
  (b.crcStepTable.lookup (c, v)).getD (crcStepDefault c v)

/-- The default MAC_PAD (R8). UNVERIFIED: the spec gives this value from general knowledge
(G5), unsafe (log 8). -/
def macPadDefault : Vector Byte 12 :=
  #v[0xFF, 0xFF, 0xFF, 0x80, 0x00, 0x00, 0x00, 0x00, 0x00, 0x00, 0x01, 0xB8]

/-- The default build: CRC_PRESENT = 1 and the default CRC_STEP and MAC_PAD (R6 to R8). -/
def defaultBuild : Config.Build where
  crcPresent := true
  macPad := macPadDefault
  crcStepTable := []

end Sys2Proof.Machine
end

