-- ==== Sys2Proof/Machine/State.lean ====
section
/-! DEFINITION. The state of the block: every register of the window (10_state.md R22), the hidden MAC state (R36),
the build, and the model's own record of what comes in and goes out; the state after reset (70_reset_and_hazards.md
R230). -/

namespace Sys2Proof.Machine

/-- The reasons a step could stop with a fault: none. The block has no traps, exceptions or
faults, and every transaction completes (60_exceptions.md R200, 20_memory.md R66). -/
inductive Fault where
deriving DecidableEq, Repr

/-- The reasons a step could be refused. -/
inductive Refusal where
  /-- Raised by exec for an instruction that has no meaning in this model yet. No arm raises
  it now. Safe: the machine stops where the hardware goes on. -/
  | notModelled (mnemonic : String)
deriving DecidableEq, Repr

/-- Whose step comes next (10_state.md R40). -/
inductive Turn where
  /-- The host presents a bus transaction (30_encoding.md R80). -/
  | host (w : BusWord)
  /-- The MAC agent takes its step, if it is enabled (41_mac.md R143). -/
  | mac
deriving DecidableEq, Repr

/-- One step's input: whether the reset event occurs in it, and whose turn it is. A reset
takes precedence over the turn of the same step (R203, R230; log 14). -/
structure Slot where
  reset : Bool
  turn  : Turn
deriving DecidableEq, Repr

/-- The state. The fields from `busy` to `macout` are the registers of the window in the
map's order (10_state.md R22); `build` is configuration that no step changes. -/
structure State where
  /-- The build parameters (00_scope.md R6 to R8). STATUS bit 7 is `build.crcPresent` (R24). -/
  build : Config.Build
  /-- STATUS bit 0, BUSY (R24): a MAC computation is in flight, with input MSG (R37). -/
  busy : Bool
  /-- STATUS bit 1, MAC_VALID (R24). -/
  macValid : Bool
  /-- STATUS bit 2, CRC_CHECKED (R24). -/
  crcChecked : Bool
  /-- STATUS bit 3, CRC_OK (R24). -/
  crcOk : Bool
  /-- STATUS bit 4, ERR_CRC (R24). -/
  errCrc : Bool
  /-- STATUS bit 5, ERR_CMD (R24). -/
  errCmd : Bool
  /-- STATUS bit 6, ERR_BUSY (R24). -/
  errBusy : Bool
  /-- CRC, the accumulator, read at CRC_LO and CRC_HI (R25). -/
  crc : Half
  /-- CRC_RX0, the first received checksum byte (R27). -/
  crcRx0 : Byte
  /-- CRC_RX1, the second received checksum byte (R27). -/
  crcRx1 : Byte
  /-- SECRET[0..7] (R28). -/
  secret : Vector Byte 8
  /-- SERIAL[0..7] (R29). -/
  serial : Vector Byte 8
  /-- SPAD[0..7] (R30). -/
  spad : Vector Byte 8
  /-- TADDR_LO (R31). -/
  taddrLo : Byte
  /-- TADDR_HI (R31). -/
  taddrHi : Byte
  /-- PAGE[0..27] (R32). -/
  page : Vector Byte 28
  /-- MSG[0..63], the Authentication Message (R33). -/
  msg : Vector Byte 64
  /-- MACOUT[0..19], the last completed MAC in wire order (R34). -/
  macout : Vector Byte 20
  /-- The hidden MAC state (R36). -/
  hidden : MacHidden
  /-- The model's own: the steps to come, first one first (log 1, log 2). -/
  inputs : List Slot
  /-- The model's own: RDATA, the byte the last host transaction returned, if it was a read
  (R80, R183; log 6). -/
  rdata : Option Byte
  /-- The model's own: how many free values have been drawn (log 4). -/
  draws : Nat
deriving DecidableEq, Repr

/-- The hidden state the model names for power-on. DESIGN CHOICE: the spec says
"unspecified, and never observable" (R230), unsafe (log 5). -/
def hiddenZero : MacHidden where
  work := ⟨0, 0, 0, 0, 0⟩
  sched := Vector.replicate 80 0
  round := 0

/-- A build right after power-on: the table of 70_reset_and_hazards.md R230. -/
def powerOn (b : Config.Build) : State where
  build := b
  busy := false
  macValid := false
  crcChecked := false
  crcOk := false
  errCrc := false
  errCmd := false
  errBusy := false
  crc := 0x0000
  crcRx0 := 0x00
  crcRx1 := 0x00
  secret := Vector.replicate 8 0x00
  serial := Vector.replicate 8 0x00
  spad := Vector.replicate 8 0x00
  taddrLo := 0x00
  taddrHi := 0x00
  page := Vector.replicate 28 0x00
  msg := Vector.replicate 64 0x00
  macout := Vector.replicate 20 0x00
  hidden := hiddenZero
  inputs := []
  rdata := none
  draws := 0

/-- The machine right after reset: the default build at its reset values (R230). -/
def State.reset : State := powerOn defaultBuild

end Sys2Proof.Machine
end

