-- ==== Sys2Proof/Machine/Flags.lean ====
section
/-! DEFINITION. STATUS as the host reads it (10_state.md R24), the sticky error flags with their cause codes
(60_exceptions.md R201), and the flag changes that the commands share (R38). -/

namespace Sys2Proof.Machine

/-- STATUS, bit 7 (CRC_PRESENT) first and bit 0 (BUSY) last (R24). -/
def statusByte (s : State) : Byte :=
  BitVec.ofBool s.build.crcPresent ++ BitVec.ofBool s.errBusy ++ BitVec.ofBool s.errCmd
    ++ BitVec.ofBool s.errCrc ++ BitVec.ofBool s.crcOk ++ BitVec.ofBool s.crcChecked
    ++ BitVec.ofBool s.macValid ++ BitVec.ofBool s.busy

/-- The error conditions (R201). -/
inductive ErrorCondition where
  /-- A CRC_CHECK failed (R106). -/
  | crc
  /-- An undefined command code was written (R85). -/
  | cmd
  /-- A MAC command was written while BUSY = 1 (R144). -/
  | busy
deriving DecidableEq, Repr

/-- The cause code of an error condition: its STATUS bit number (R201). -/
def causeCode : ErrorCondition → Nat
  | .crc => 4
  | .cmd => 5
  | .busy => 6

/-- Recording an error condition. This block's only response to an error: it takes no trap
(R200, R205) and sets the condition's sticky flag, with no other information (R201, R202). -/
def recordError (e : ErrorCondition) (s : State) : State :=
  match e with
  | .crc => { s with errCrc := true }
  | .cmd => { s with errCmd := true }
  | .busy => { s with errBusy := true }

/-- Acknowledging: the sticky error flags go to 0 (R181, R202). -/
def clearErrors (s : State) : State := { s with errCrc := false, errCmd := false, errBusy := false }

/-- The flags a CRC_INIT leaves: no check has been made of the accumulation it starts (R104). -/
def clearCheck (s : State) : State := { s with crcChecked := false, crcOk := false }

/-- The flags a CRC_CHECK leaves, given its outcome (R106). -/
def recordCheck (ok : Bool) (s : State) : State :=
  let t := { s with crcChecked := true, crcOk := ok }
  if ok then t else recordError .crc t

/-- The flag an accepted MAC_ASSEMBLE leaves: MACOUT is not the MAC of the new MSG (R140). -/
def invalidateMac (s : State) : State := { s with macValid := false }

/-- The flags an accepted MAC_RUN or MAC_GEN leaves: the MAC agent has its step (R141, R142). -/
def startMac (s : State) : State := { s with macValid := false, busy := true }

/-- The flags MAC completion leaves (R143). -/
def finishMac (s : State) : State := { s with busy := false, macValid := true }

end Sys2Proof.Machine
end

