-- ==== Sys2Proof/Machine/Operands.lean ====
section
/-! DEFINITION. The operand of RD and WR: the register map of 10_state.md R22, which names the byte at each of the 256
window addresses. -/

namespace Sys2Proof.Machine

/-- The byte a window address names (10_state.md R22). -/
inductive Loc where
  | cmd
  | status
  | crcLo
  | crcHi
  | crcDin
  | crcRx0
  | crcRx1
  | secret (i : Fin 8)
  | serial (i : Fin 8)
  | spad (i : Fin 8)
  | taddrLo
  | taddrHi
  | page (i : Fin 28)
  | msg (i : Fin 64)
  | macout (i : Fin 20)
  /-- A reserved address (R35). -/
  | reserved
deriving DecidableEq, Repr

/-- The access codes of the map (R22); a reserved address has none (R35). -/
inductive Access where
  | readWrite
  | readOnly
  | writeOnly
  | none
deriving DecidableEq, Repr

/-- The register map, row by row (R22). Element i of a buffer is at its base address plus i. -/
def locate (a : Addr) : Loc :=
  let n := a.toNat
  if n = 0x00 then .cmd
  else if n = 0x01 then .status
  else if n = 0x02 then .crcLo
  else if n = 0x03 then .crcHi
  else if n = 0x04 then .crcDin
  else if n = 0x05 then .crcRx0
  else if n = 0x06 then .crcRx1
  else if n < 0x10 then .reserved
  else if n < 0x18 then .secret (Fin.ofNat 8 (n - 0x10))
  else if n < 0x20 then .serial (Fin.ofNat 8 (n - 0x18))
  else if n < 0x28 then .spad (Fin.ofNat 8 (n - 0x20))
  else if n = 0x28 then .taddrLo
  else if n = 0x29 then .taddrHi
  else if n < 0x30 then .reserved
  else if n < 0x4C then .page (Fin.ofNat 28 (n - 0x30))
  else if n < 0x80 then .reserved
  else if n < 0xC0 then .msg (Fin.ofNat 64 (n - 0x80))
  else if n < 0xD4 then .macout (Fin.ofNat 20 (n - 0xC0))
  else .reserved

/-- The access column of the map (R22). -/
def accessOf : Loc → Access
  | .cmd => .writeOnly
  | .status => .readOnly
  | .crcLo => .readOnly
  | .crcHi => .readOnly
  | .crcDin => .writeOnly
  | .crcRx0 => .readWrite
  | .crcRx1 => .readWrite
  | .secret _ => .readWrite
  | .serial _ => .readWrite
  | .spad _ => .readWrite
  | .taddrLo => .readWrite
  | .taddrHi => .readWrite
  | .page _ => .readWrite
  | .msg _ => .readOnly
  | .macout _ => .readOnly
  | .reserved => .none

/-- The address of a named byte (R22); none for `reserved`, which names no byte. -/
def addressOf : Loc → Option Addr
  | .cmd => some 0x00
  | .status => some 0x01
  | .crcLo => some 0x02
  | .crcHi => some 0x03
  | .crcDin => some 0x04
  | .crcRx0 => some 0x05
  | .crcRx1 => some 0x06
  | .secret i => some (BitVec.ofNat 8 (0x10 + i.val))
  | .serial i => some (BitVec.ofNat 8 (0x18 + i.val))
  | .spad i => some (BitVec.ofNat 8 (0x20 + i.val))
  | .taddrLo => some 0x28
  | .taddrHi => some 0x29
  | .page i => some (BitVec.ofNat 8 (0x30 + i.val))
  | .msg i => some (BitVec.ofNat 8 (0x80 + i.val))
  | .macout i => some (BitVec.ofNat 8 (0xC0 + i.val))
  | .reserved => Option.none

/-- The target address TADDR = TADDR_HI << 8 | TADDR_LO (R31). -/
def targetAddress (s : State) : Half := s.taddrHi ++ s.taddrLo

/-- The received checksum RX = CRC_RX1 << 8 | CRC_RX0 (R27, 40_crc16.md R105). -/
def receivedChecksum (s : State) : Half := s.crcRx1 ++ s.crcRx0

end Sys2Proof.Machine
end

