-- ==== Sys2Proof/Machine/Ops.lean ====
section
/-! DEFINITION. The named operations on the register window: the byte a read gives, the state a write leaves, the
guard of the MAC commands, and the free values. The block has no trap to enter or return from (60_exceptions.md R205);
recording an error and acknowledging it are `recordError` and `clearErrors` in Flags.lean. -/

namespace Sys2Proof.Machine

/-- The byte a host read of a named byte returns (42_control.md R183). A write-only or reserved
address gives 0x00 (20_memory.md R63), as do CRC_LO and CRC_HI in a build without the CRC unit
(10_state.md R25); MACOUT while BUSY = 1 gives the free byte of this draw (R64). -/
def readLoc (s : State) : Loc → Byte
  | .cmd => 0x00
  | .status => statusByte s
  | .crcLo => if s.build.crcPresent then s.crc.extractLsb' 0 8 else 0x00
  | .crcHi => if s.build.crcPresent then s.crc.extractLsb' 8 8 else 0x00
  | .crcDin => 0x00
  | .crcRx0 => s.crcRx0
  | .crcRx1 => s.crcRx1
  | .secret i => s.secret[i.val]
  | .serial i => s.serial[i.val]
  | .spad i => s.spad[i.val]
  | .taddrLo => s.taddrLo
  | .taddrHi => s.taddrHi
  | .page i => s.page[i.val]
  | .msg i => s.msg[i.val]
  | .macout i => if s.busy then Config.freeByte s.draws else s.macout[i.val]
  | .reserved => 0x00

/-- The byte a host read of window address `a` returns (R183). -/
def readByte (s : State) (a : Addr) : Byte := readLoc s (locate a)

/-- Whether a host read of `a` returns an unspecified byte: MACOUT while BUSY = 1 (R64). -/
def readIsFree (s : State) (a : Addr) : Bool :=
  match locate a with
  | .macout _ => s.busy
  | .cmd | .status | .crcLo | .crcHi | .crcDin | .crcRx0 | .crcRx1 | .secret _ | .serial _ | .spad _
  | .taddrLo | .taddrHi | .page _ | .msg _ | .reserved => false

/-- The state a WR leaves at a named byte: a read/write register takes the byte, and a
read-only or reserved one ignores it (42_control.md R182, 20_memory.md R62). A write to CMD or
CRC_DIN is no WR (30_encoding.md R82); here it stores nothing, for they hold nothing (R23, R26). -/
def writeLoc (s : State) (d : Byte) : Loc → State
  | .cmd => s
  | .status => s
  | .crcLo => s
  | .crcHi => s
  | .crcDin => s
  | .crcRx0 => { s with crcRx0 := d }
  | .crcRx1 => { s with crcRx1 := d }
  | .secret i => { s with secret := s.secret.set i.val d }
  | .serial i => { s with serial := s.serial.set i.val d }
  | .spad i => { s with spad := s.spad.set i.val d }
  | .taddrLo => { s with taddrLo := d }
  | .taddrHi => { s with taddrHi := d }
  | .page i => { s with page := s.page.set i.val d }
  | .msg _ => s
  | .macout _ => s
  | .reserved => s

/-- The state a WR of `d` to window address `a` leaves (R182). -/
def writeByte (s : State) (a : Addr) (d : Byte) : State := writeLoc s d (locate a)

/-- Return a byte to the host as RDATA (30_encoding.md R80). -/
def respond (v : Byte) (s : State) : State := { s with rdata := some v }

/-- Use up one draw of a free value (log 4). -/
def draw (s : State) : State := { s with draws := s.draws + 1 }

/-- The guard of the MAC commands: while BUSY = 1 the command is dropped, and sets ERR_BUSY
and nothing else (41_mac.md R144). -/
def unlessBusy (accepted : State → State) (s : State) : State :=
  if s.busy then recordError .busy s else accepted s

/-- The pending MAC computation: its input while BUSY = 1 (10_state.md R37). -/
def pendingMac (s : State) : Option (Vector Byte 64) := if s.busy then some s.msg else none

end Sys2Proof.Machine
end

