-- ==== Sys2Proof/Machine/Control.lean ====
section
/-! DEFINITION. The meanings of NOP, CLR_ERR, the undefined commands, WR and RD (42_control.md R180 to R183,
30_encoding.md R85). -/

namespace Sys2Proof.Machine

/-- `NOP` (R180). -/
def execNop (s : State) : Host.Outcome State Fault Refusal := .next s

/-- `CLR_ERR` (R181). -/
def execClrErr (s : State) : Host.Outcome State Fault Refusal := .next (clearErrors s)

/-- `CMD_UNDEF`: ERR_CMD is set, whatever BUSY is, and the code is not kept (R85, R201). -/
def execCmdUndef (_code : Byte) (s : State) : Host.Outcome State Fault Refusal :=
  .next (recordError .cmd s)

/-- `WR` (R182). -/
def execWr (a : Addr) (d : Byte) (s : State) : Host.Outcome State Fault Refusal :=
  .next (writeByte s a d)

/-- `RD` (R183). The byte goes to RDATA; nothing of the block changes (20_memory.md R65). A
read that returned a free byte uses up its draw (R64). -/
def execRd (a : Addr) (s : State) : Host.Outcome State Fault Refusal :=
  .next (respond (readByte s a) (if readIsFree s a then draw s else s))

end Sys2Proof.Machine
end

