-- ==== Sys2Proof/Machine/Crc.lean ====
section
/-! DEFINITION. The CRC unit: the CRC of a byte sequence (40_crc16.md R101), the comparison (R105), and the meanings
of CRC_FEED, CRC_INIT and CRC_CHECK. -/

namespace Sys2Proof.Machine

/-- The CRC of the bytes `bs` fed after `c`, in feed order (R101). -/
def crcFold (b : Config.Build) (c : Half) (bs : List Byte) : Half := bs.foldl (crcStepOf b) c

/-- `crc16(s)`: from the seed 0x0000 (R101). -/
def crc16 (b : Config.Build) (bs : List Byte) : Half := crcFold b 0x0000 bs

/-- The outcome of a CRC_CHECK (R105, R106): a build without the CRC unit passes every check. -/
def checkPasses (s : State) : Bool :=
  !s.build.crcPresent || (~~~s.crc == receivedChecksum s)

/-- Set the accumulator. -/
def setCrc (c : Half) (s : State) : State := { s with crc := c }

/-- Set the accumulator where the build has one: with CRC_PRESENT = 0 it does not exist
(10_state.md R25, R103, R104; log 17). -/
def storeCrc (c : Half) (s : State) : State := if s.build.crcPresent then setCrc c s else s

/-- `CRC_FEED` (R103). -/
def execCrcFeed (d : Byte) (s : State) : Host.Outcome State Fault Refusal :=
  .next (storeCrc (crcStepOf s.build s.crc d) s)

/-- `CRC_INIT` (R104). -/
def execCrcInit (s : State) : Host.Outcome State Fault Refusal :=
  .next (clearCheck (storeCrc 0x0000 s))

/-- `CRC_CHECK`, as the pseudocode of R106 has it. Each write makes the comparison anew. DEDUCED: a
second one in a row leaves what the first left (60_exceptions.md R202), where 20_memory.md R65 says
that writing it twice does more (log 23). -/
def execCrcCheck (s : State) : Host.Outcome State Fault Refusal :=
  .next (recordCheck (checkPasses s) s)

end Sys2Proof.Machine
end

