-- ==== Sys2Proof/Machine/Sha1.lean ====
section
/-! DEFINITION. The truncated SHA-1 compression of the MAC unit (41_mac.md R133 to R138) and the wire order of its
result (R145). -/

namespace Sys2Proof.Machine

/-- `rotl32(v, n)`, for 0 < n < 32 (00_scope.md R12). -/
def rotl32 (v : Word) (n : Nat) : Word := (v <<< n) ||| (v >>> (32 - n))

/-- `be32(b0, b1, b2, b3)` (R12). -/
def be32 (b0 b1 b2 b3 : Byte) : Word := b0 ++ b1 ++ b2 ++ b3

/-- `le_bytes32(w)`: byte j is w[8j+7 : 8j] (R12). -/
def leByte32 (w : Word) (j : Nat) : Byte := w.extractLsb' (8 * j) 8

/-- The initial state `IV[0..4]` (R133). -/
def shaIv : Work where
  a := 0x67452301
  b := 0xEFCDAB89
  c := 0x98BADCFE
  d := 0x10325476
  e := 0xC3D2E1F0

/-- The round function f_t (R135). UNVERIFIED: the spec gives it from general knowledge (G6), unsafe (log 11). -/
def roundFn (t : Nat) (b c d : Word) : Word :=
  if t < 20 then (b &&& c) ||| (~~~b &&& d)
  else if t < 40 then b ^^^ c ^^^ d
  else if t < 60 then (b &&& c) ||| (b &&& d) ||| (c &&& d)
  else b ^^^ c ^^^ d

/-- The round constant K_t (R135). UNVERIFIED: the spec gives it from general knowledge (G6), unsafe (log 11). -/
def roundConst (t : Nat) : Word :=
  if t < 20 then 0x5A827999
  else if t < 40 then 0x6ED9EBA1
  else if t < 60 then 0x8F1BBCDC
  else 0xCA62C1D6

/-- One round (R136). UNVERIFIED: the spec gives it from general knowledge (G7), unsafe (log 11). -/
def shaRound (t : Nat) (w : Word) (x : Work) : Work where
  a := rotl32 x.a 5 + roundFn t x.b x.c x.d + x.e + roundConst t + w
  b := x.a
  c := rotl32 x.b 30
  d := x.c
  e := x.d

/-- Word t of the input block, for t in 0..15: big-endian (R134, 20_memory.md R67). -/
def blockWord (m : Vector Byte 64) (t : Fin 16) : Word :=
  be32 (m[4 * t.val]) (m[4 * t.val + 1]) (m[4 * t.val + 2]) (m[4 * t.val + 3])

/-- The schedule word after the words `ws`, newest first: W[t-3] is at offset 2, W[t-8] at 7,
W[t-14] at 13 and W[t-16] at 15 (R134). -/
def nextScheduleWord (ws : List Word) : Word :=
  rotl32 (ws.getD 2 0 ^^^ ws.getD 7 0 ^^^ ws.getD 13 0 ^^^ ws.getD 15 0) 1

/-- The first 16 + n schedule words, newest first (R134). -/
def scheduleUpTo (m : Vector Byte 64) : Nat → List Word
  | 0 => (List.ofFn (blockWord m)).reverse
  | n + 1 => nextScheduleWord (scheduleUpTo m n) :: scheduleUpTo m n

/-- The schedule W[0..79], in order (R134). -/
def schedule (m : Vector Byte 64) : List Word := (scheduleUpTo m 64).reverse

/-- The rounds from round `t` on, one for each word (R138). -/
def shaRounds : List Word → Nat → Work → Work
  | [], _, x => x
  | w :: ws, t, x => shaRounds ws (t + 1) (shaRound t w x)

/-- `MACF(MSG)`: the working variables after round 79, with no feed-forward (R137, R138). -/
def macf (m : Vector Byte 64) : Work := shaRounds (schedule m) 0 shaIv

/-- The words in the order they are sent, `O = (e, d, c, b, a)` (R145). -/
def wireWords (x : Work) : Vector Word 5 := #v[x.e, x.d, x.c, x.b, x.a]

/-- The MAC in wire order: MACOUT[4k + j] is byte j of O[k], least-significant byte first (R145). -/
def serializeMac (x : Work) : Vector Byte 20 :=
  Vector.ofFn fun i : Fin 20 => leByte32 ((wireWords x)[i.val / 4]'(by omega)) (i.val % 4)

/-- The hidden state at the end of a computation (10_state.md R36): the working variables
after round 79, the whole schedule, and the counter at 80. DEDUCED (log 5). -/
def finishedHidden (m : Vector Byte 64) : MacHidden where
  work := macf m
  sched := Vector.ofFn fun t : Fin 80 => (schedule m).getD t.val 0
  round := 80

end Sys2Proof.Machine
end

