-- ==== Sys2Proof/Machine/Mac.lean ====
section
/-! DEFINITION. The MAC unit: the Authentication Message (41_mac.md R131), the meanings of MAC_ASSEMBLE, MAC_RUN and
MAC_GEN, and the MAC agent's completion step (R143). -/

namespace Sys2Proof.Machine

/-- The page-number byte `((TADDR & 0x00F0) >> 5)[7:0]` (R132). -/
def pageNumberByte (taddr : Half) : Byte := ((taddr &&& 0x00F0) >>> 5).setWidth 8

/-- `ASSEMBLE()`: the 64 bytes of the Authentication Message from the input registers, one line
a row of the layout (R131). SERIAL[7] enters nowhere (R149). -/
def assembledMsg (s : State) : Vector Byte 64 :=
  Vector.ofFn fun i : Fin 64 =>
    if h : i.val < 4 then s.secret[i.val]
    else if h : i.val < 32 then s.page[i.val - 4]
    else if h : i.val < 40 then s.spad[i.val - 32]
    else if i.val < 41 then pageNumberByte (targetAddress s)
    else if h : i.val < 48 then s.serial[i.val - 41]
    else if h : i.val < 52 then s.secret[i.val - 48 + 4]
    else s.build.macPad[i.val - 52]

/-- Store the 64 bytes of MSG. -/
def storeMsg (m : Vector Byte 64) (s : State) : State := { s with msg := m }

/-- Build MSG from the input registers (R131). -/
def assembleMsg (s : State) : State := storeMsg (assembledMsg s) s

/-- `MAC_ASSEMBLE` (R140). -/
def execMacAssemble (s : State) : Host.Outcome State Fault Refusal :=
  .next (unlessBusy (fun t => invalidateMac (assembleMsg t)) s)

/-- `MAC_RUN` (R141). -/
def execMacRun (s : State) : Host.Outcome State Fault Refusal :=
  .next (unlessBusy startMac s)

/-- `MAC_GEN` (R142). -/
def execMacGen (s : State) : Host.Outcome State Fault Refusal :=
  .next (unlessBusy (fun t => startMac (assembleMsg t)) s)

/-- Store a finished MAC in wire order, with the hidden state it leaves, and set the flags (R143). -/
def storeMac (out : Vector Byte 20) (h : MacHidden) (s : State) : State :=
  finishMac { s with macout := out, hidden := h }

/-- MAC completion, the MAC agent's one step, where it is enabled (R143). -/
def completeMac (s : State) : State :=
  storeMac (serializeMac (macf s.msg)) (finishedHidden s.msg) s

end Sys2Proof.Machine
end

