-- ==== Sys2Proof/Machine/Dispatch.lean ====
section
/-! DEFINITION. The meaning of every instruction, one arm per constructor of Instr. -/

namespace Sys2Proof.Machine

def exec (i : Instr) (s : State) : Host.Outcome State Fault Refusal :=
  match i with
  | .nop => Sys2Proof.Machine.execNop s
  | .crcInit => Sys2Proof.Machine.execCrcInit s
  | .crcCheck => Sys2Proof.Machine.execCrcCheck s
  | .clrErr => Sys2Proof.Machine.execClrErr s
  | .macAssemble => Sys2Proof.Machine.execMacAssemble s
  | .macRun => Sys2Proof.Machine.execMacRun s
  | .macGen => Sys2Proof.Machine.execMacGen s
  | .cmdUndef code => Sys2Proof.Machine.execCmdUndef code s
  | .crcFeed d => Sys2Proof.Machine.execCrcFeed d s
  | .wr a d => Sys2Proof.Machine.execWr a d s
  | .rd a => Sys2Proof.Machine.execRd a s

end Sys2Proof.Machine
end

