-- ==== Sys2Proof/Machine/Agents.lean ====
section
/-! DEFINITION. What one step can be (10_state.md R40, 60_exceptions.md R211): the host's transaction, the MAC agent's
completion, or the reset event. -/

namespace Sys2Proof.Machine

/-- Leave `l` as the steps to come. -/
def setInputs (l : List Slot) (s : State) : State := { s with inputs := l }

/-- A transaction begins with no byte returned (log 6). -/
def clearResponse (s : State) : State := { s with rdata := none }

/-- Set the hidden MAC state. -/
def setHidden (h : MacHidden) (s : State) : State := { s with hidden := h }

/-- While BUSY = 1 the spec fixes no value of the hidden MAC state (R36): it takes a free one. -/
def churnHidden (s : State) : State :=
  if s.busy then draw (setHidden (Config.freeHidden s.draws) s) else s

/-- The host's transaction: the word is decoded and the instruction runs, with no RDATA yet
(30_encoding.md R80, R82). -/
def hostTurn (w : BusWord) (s : State) : Host.Outcome State Fault Refusal :=
  match exec (decode w) (clearResponse s) with
  | .next t => .next (churnHidden t)
  | .fault r => .fault r
  | .refused r => .refused r

/-- The MAC agent's turn: its step if BUSY = 1; else it has none, and nothing changes (R40, R143; log 15). -/
def macTurn (s : State) : State := if s.busy then completeMac s else s

/-- The reset event (70_reset_and_hazards.md R230): every register takes its reset value, and a
pending MAC computation is abandoned. The hidden state is unspecified after it, so it is a free
value; the build and the inputs still to come are not the block's to reset (log 14). -/
def resetEvent (s : State) : State :=
  { powerOn s.build with
    hidden := Config.freeHidden s.draws, inputs := s.inputs, draws := s.draws + 1 }

/-- One slot of the inputs: a reset takes precedence over the turn (R203, R230). -/
def runSlot (slot : Slot) (s : State) : Host.Outcome State Fault Refusal :=
  if slot.reset then .next (resetEvent s)
  else match slot.turn with
    | .host w => hostTurn w s
    | .mac => .next (macTurn s)

/-- One step. Where the inputs are used up, the host issues nothing more, and the MAC agent is
the only agent that can have a step: it takes it (weak fairness, R239; log 2). -/
def nextStep (s : State) : Host.Outcome State Fault Refusal :=
  match s.inputs with
  | [] => .next (macTurn s)
  | slot :: rest => runSlot slot (setInputs rest s)

/-- The host's next step is to present the word `w`; what was to come follows it (log 1). -/
def presentNext (w : BusWord) (s : State) : State :=
  setInputs (⟨false, .host w⟩ :: s.inputs) s

end Sys2Proof.Machine
end

