-- ==== Sys2Proof/Machine/Step.lean ====
section
/-! DEFINITION. The step of the machine, and where the host's next transaction stands. -/

namespace Sys2Proof.Machine

/-- One step of one of the agents, or a reset (10_state.md R40, 60_exceptions.md R211). -/
def step (s : State) : Host.Outcome State Fault Refusal := nextStep s

/-- The machine with the transaction word `w` as the host's next. The bus has 17 wires, and bits
of `w` above them do not exist on it (30_encoding.md R80; log 13). -/
def State.withFetchWord (s : State) (_nbits w : Nat) : State := presentNext (BitVec.ofNat 17 w) s

end Sys2Proof.Machine
end

