-- ==== Sys2Proof/Machine/Asm.lean ====
section
/-! DEFINITION. The host's side of the interface, as far as the spec fixes it: the assembly spelling (30_encoding.md
R88), the pseudo-instructions (R89), the chip's wire commands (00_scope.md R16) and the two frames the CRC unit checks
(40_crc16.md R112, R113). Nothing here is state of the block or changes it. -/

namespace Sys2Proof.Machine

/-- One hexadecimal digit. -/
def hexDigit (n : Nat) : Char :=
  if n < 10 then Char.ofNat (48 + n) else Char.ofNat (55 + n)

/-- A byte as the spec writes it, `0x..` (R11). -/
def hexByte (b : Byte) : String :=
  "0x" ++ String.ofList [hexDigit (b.toNat / 16), hexDigit (b.toNat % 16)]

/-- A transaction in the assembly syntax, its address as a number (R88). -/
def asmText : Instr → String
  | .nop => "NOP"
  | .crcInit => "CRC_INIT"
  | .crcCheck => "CRC_CHECK"
  | .clrErr => "CLR_ERR"
  | .macAssemble => "MAC_ASSEMBLE"
  | .macRun => "MAC_RUN"
  | .macGen => "MAC_GEN"
  | .cmdUndef c => "CMD_UNDEF " ++ hexByte c
  | .crcFeed d => "CRC_FEED " ++ hexByte d
  | .wr a d => "WR " ++ hexByte a ++ ", " ++ hexByte d
  | .rd a => "RD " ++ hexByte a

/-- A byte of a buffer as R88 spells it: the register's name with `+<n>`. -/
def asmElement (name : String) (n : Nat) : String := name ++ "+" ++ toString n

/-- The register name that R88 allows for an address; a reserved one has no name. -/
def asmName : Loc → Option String
  | .cmd => some "CMD"
  | .status => some "STATUS"
  | .crcLo => some "CRC_LO"
  | .crcHi => some "CRC_HI"
  | .crcDin => some "CRC_DIN"
  | .crcRx0 => some "CRC_RX0"
  | .crcRx1 => some "CRC_RX1"
  | .secret i => some (asmElement "SECRET" i.val)
  | .serial i => some (asmElement "SERIAL" i.val)
  | .spad i => some (asmElement "SPAD" i.val)
  | .taddrLo => some "TADDR_LO"
  | .taddrHi => some "TADDR_HI"
  | .page i => some (asmElement "PAGE" i.val)
  | .msg i => some (asmElement "MSG" i.val)
  | .macout i => some (asmElement "MACOUT" i.val)
  | .reserved => Option.none

/-- A host write of code or data to any address, spelled as the transaction it is: a command,
a CRC_FEED or a WR (R82, R88). -/
def hostWrite (a : Addr) (d : Byte) : Instr := decode (busWord true a d)

/-- `WRBUF <base>, b0, ..., b(n-1)` (R89). DESIGN CHOICE: the spec sets no limit on n, and R88 no
address above 0xFF; base+i is an 8-bit address here, so past 0xFF it wraps to 0x00, where a write
is a command (log 22). -/
def wrBuf (base : Addr) : List Byte → List Instr
  | [] => []
  | b :: bs => hostWrite base b :: wrBuf (base + 1) bs

/-- `RDBUF <base>, n` (R89). DESIGN CHOICE: as in `wrBuf`, base+i past 0xFF wraps to 0x00 (log 22). -/
def rdBuf (base : Addr) : Nat → List Instr
  | 0 => []
  | n + 1 => .rd base :: rdBuf (base + 1) n

/-- `CRC_FEEDS b0, ..., b(n-1)` (R89). -/
def crcFeeds (bs : List Byte) : List Instr := bs.map .crcFeed

/-- `CRC_RX r0, r1` (R89). -/
def crcRx (r0 r1 : Byte) : List Instr := [.wr 0x05 r0, .wr 0x06 r1]

/-- One pass of `WAIT_IDLE`: a read of STATUS (R89). The loop around it is host control flow. -/
def waitIdleRead : Instr := .rd 0x01

/-- Whether `WAIT_IDLE` branches back, given the byte read: bit 0 is 1 (R89). -/
def waitIdleAgain (rdata : Byte) : Bool := rdata.getLsbD 0

/-- The host's turns for a list of transactions, in order. -/
def hostSlots (is : List Instr) : List Slot := is.map fun i => ⟨false, .host (encode i)⟩

/-- The chip's wire command bytes (00_scope.md R16). They are CRC input, not commands of the block. -/
inductive WireCommand where
  | readMemory
  | writeScratchpad
  | readScratchpad
  | copyScratchpad
  | loadFirstSecret
  | readAuthenticated
deriving DecidableEq, Repr

/-- The byte of a wire command (R16). -/
def wireByte : WireCommand → Byte
  | .readMemory => 0xF0
  | .writeScratchpad => 0x0F
  | .readScratchpad => 0xAA
  | .copyScratchpad => 0x55
  | .loadFirstSecret => 0x5A
  | .readAuthenticated => 0xA5

/-- The 11 bytes fed for a write-scratchpad frame (R112). -/
def writeScratchpadFrame (ta : Half) (data : Vector Byte 8) : List Byte :=
  [wireByte .writeScratchpad, ta.extractLsb' 0 8, ta.extractLsb' 8 8] ++ data.toList

/-- The 12 bytes fed for a read-scratchpad frame (R113). -/
def readScratchpadFrame (ta : Half) (es : Byte) (data : Vector Byte 8) : List Byte :=
  [wireByte .readScratchpad, ta.extractLsb' 0 8, ta.extractLsb' 8 8, es] ++ data.toList

end Sys2Proof.Machine
end

