-- ==== Sys2Proof/Safety.lean ====
section
/-! DEFINITION. The terms the statements use: the invariant of the registers, the host's duties, the end of a run,
runs over the inputs, and what a run has fed to the CRC unit. -/

namespace Sys2Proof.Machine

/-- What the flags and registers promise each other, in every state a run reaches. -/
structure BlockInv (s : State) : Prop where
  /-- CRC_OK means something only when CRC_CHECKED = 1 (10_state.md R24, R104, R106). -/
  okIsChecked : s.crcOk = true → s.crcChecked = true
  /-- A computation in flight has no valid result yet (R141 to R143). -/
  busyNotValid : s.busy = true → s.macValid = false
  /-- MAC_VALID: MACOUT holds the MAC of the current MSG (10_state.md R24). -/
  validMac : s.macValid = true → s.macout = serializeMac (macf s.msg)
  /-- In a build without the CRC unit every check passes and ERR_CRC is never set (40_crc16.md R106). -/
  checkPassesWithoutCrc : s.build.crcPresent = false → s.crcOk = s.crcChecked ∧ s.errCrc = false

/-- The duties of the host that concern one transaction: it writes no undefined command code
(30_encoding.md R85), reaches no reserved address (93_implementation_defined.md), reads no
MACOUT byte (70_reset_and_hazards.md R233) and writes no MAC command (R234) while BUSY = 1.
A duty is the host's: the block does not enforce it (log 16). -/
def HostDuty (s : State) : Instr → Prop
  | .nop => True
  | .crcInit => True
  | .crcCheck => True
  | .clrErr => True
  | .macAssemble => s.busy = false
  | .macRun => s.busy = false
  | .macGen => s.busy = false
  | .cmdUndef _ => False
  | .crcFeed _ => True
  | .wr a _ => locate a ≠ .reserved
  | .rd a => locate a ≠ .reserved ∧ readIsFree s a = false

/-- The end state of a run: the host has issued its last transaction and BUSY = 0
(70_reset_and_hazards.md R240). -/
def Ended (s : State) : Prop := s.inputs = [] ∧ s.busy = false

/-- The two states differ at most in the hidden MAC state. -/
def SameButHidden (s t : State) : Prop := t = { s with hidden := t.hidden }

/-- A slot in which the host presents the word `w` and no reset occurs. -/
def hostSlot (w : BusWord) : Slot := ⟨false, .host w⟩

/-- The bytes fed to the accumulator since the last CRC_INIT or reset (40_crc16.md R102), after
one more slot, given those before it. -/
def fedAfter (slot : Slot) (fed : List Byte) : List Byte :=
  if slot.reset then []
  else match slot.turn with
    | .mac => fed
    | .host w =>
      match decode w with
      | .crcInit => []
      | .crcFeed d => fed ++ [d]
      | .nop | .crcCheck | .clrErr | .macAssemble | .macRun | .macGen | .cmdUndef _ | .wr _ _ | .rd _ => fed

/-- The layout of the Authentication Message, index by index as the pseudocode of 41_mac.md R131
writes it, over TADDR = TADDR_HI << 8 | TADDR_LO (10_state.md R31). -/
structure MsgLayout (s : State) (m : Vector Byte 64) : Prop where
  secretLow : ∀ i, (h : i < 4) → m[i] = s.secret[i]
  page : ∀ i, (h : i < 28) → m[4 + i] = s.page[i]
  spad : ∀ i, (h : i < 8) → m[32 + i] = s.spad[i]
  pageNumber :
    m[40] = (((s.taddrHi.setWidth 16 <<< 8 ||| s.taddrLo.setWidth 16 : Half) &&& 0x00F0) >>> 5).setWidth 8
  serial : ∀ i, (h : i < 7) → m[41 + i] = s.serial[i]
  secretHigh : ∀ i, (h : i < 4) → m[48 + i] = s.secret[4 + i]
  pad : ∀ i, (h : i < 12) → m[52 + i] = s.build.macPad[i]

/-- The check of a frame: the complement of the CRC of the bytes fed is RX = r1 << 8 | r0
(40_crc16.md R105). -/
def FramePasses (b : Config.Build) (fed : List Byte) (r0 r1 : Byte) : Prop :=
  ~~~(crc16 b fed) = (r1.setWidth 16 <<< 8 ||| r0.setWidth 16 : Half)

/-- Bit `k` of a byte flipped. -/
def flipBit (v : Byte) (k : Nat) : Byte := v ^^^ (1 <<< k)

/-- The second frame is the first with bit `k` of exactly one byte flipped: of a byte fed, of the
first received byte or of the second (40_crc16.md R108). -/
def OneBitFlipped (k : Nat) (fed : List Byte) (r0 r1 : Byte) (fed' : List Byte) (r0' r1' : Byte) : Prop :=
  (∃ i, ∃ h : i < fed.length, fed' = fed.set i (flipBit fed[i] k) ∧ r0' = r0 ∧ r1' = r1) ∨
  (fed' = fed ∧ r0' = flipBit r0 k ∧ r1' = r1) ∨ (fed' = fed ∧ r0' = r0 ∧ r1' = flipBit r1 k)

/-- The two states agree but in the model's RDATA and its count of draws: what a read may change. -/
def SameButResponse (s t : State) : Prop := t = { s with rdata := t.rdata, draws := t.draws }

/-- The window addresses of the read/write registers (10_state.md R22). -/
def isReadWriteAddress (a : Addr) : Bool :=
  a.toNat = 0x05 || a.toNat = 0x06 || (0x10 ≤ a.toNat && a.toNat ≤ 0x29) || (0x30 ≤ a.toNat && a.toNat ≤ 0x4B)

/-- The reserved window addresses (10_state.md R35). -/
def isReservedAddress (a : Addr) : Bool :=
  (0x07 ≤ a.toNat && a.toNat ≤ 0x0F) || (0x2A ≤ a.toNat && a.toNat ≤ 0x2F)
    || (0x4C ≤ a.toNat && a.toNat ≤ 0x7F) || 0xD4 ≤ a.toNat

/-- The three sticky error flags (60_exceptions.md R201), by condition. -/
def errorFlag (s : State) : ErrorCondition → Bool
  | .crc => s.errCrc
  | .cmd => s.errCmd
  | .busy => s.errBusy

/-- The causes of the error conditions (60_exceptions.md R201): what raises each flag. -/
def ErrorCause (s : State) (i : Instr) : ErrorCondition → Prop
  | .crc => i = .crcCheck ∧ s.build.crcPresent = true ∧
      ~~~s.crc ≠ (s.crcRx1.setWidth 16 <<< 8 ||| s.crcRx0.setWidth 16 : Half)
  | .cmd => ∃ c, i = .cmdUndef c
  | .busy => (i = .macAssemble ∨ i = .macRun ∨ i = .macGen) ∧ s.busy = true

/-- Everything an instruction with the cause of an error leaves: the condition's flag, the flags of a
failed CRC_CHECK (40_crc16.md R106), and the rest as it was (60_exceptions.md R201). -/
def afterError (s : State) : ErrorCondition → State
  | .crc => { s with crcChecked := true, crcOk := false, errCrc := true }
  | .cmd => { s with errCmd := true }
  | .busy => { s with errBusy := true }

/-- Every register holds its reset value and no MAC is pending: the table of
70_reset_and_hazards.md R230, but for the hidden state, which it leaves unspecified. -/
structure AtResetValues (s : State) : Prop where
  status : statusByte s = if s.build.crcPresent then 0x80 else 0x00
  crc : s.crc = 0x0000
  crcRx : s.crcRx0 = 0x00 ∧ s.crcRx1 = 0x00
  secret : s.secret = Vector.replicate 8 0x00
  serial : s.serial = Vector.replicate 8 0x00
  spad : s.spad = Vector.replicate 8 0x00
  taddr : s.taddrLo = 0x00 ∧ s.taddrHi = 0x00
  page : s.page = Vector.replicate 28 0x00
  msg : s.msg = Vector.replicate 64 0x00
  macout : s.macout = Vector.replicate 20 0x00
  pending : pendingMac s = none

/-- Standard SHA-1, as the reference of 41_mac.md R139: one block compressed from the chaining
value `h`, with the final addition (the feed-forward) that the block's MACF leaves out. -/
def sha1Block (h : Work) (m : Vector Byte 64) : Work :=
  let x := shaRounds (schedule m) 0 h
  ⟨x.a + h.a, x.b + h.b, x.c + h.c, x.d + h.d, x.e + h.e⟩

/-- The eight bytes of a 64-bit big-endian bit length. -/
def sha1LengthBytes (bits : Nat) : List Byte :=
  (List.range 8).map fun i => BitVec.ofNat 8 (bits / 2 ^ (8 * (7 - i)))

/-- SHA-1 padding: 0x80, zero bytes up to 8 short of a multiple of 64, and the bit length. -/
def sha1Pad (bs : List Byte) : List Byte :=
  bs ++ [0x80] ++ List.replicate ((119 - bs.length % 64) % 64) 0x00 ++ sha1LengthBytes (8 * bs.length)

/-- The `k`-th 64-byte block of a padded message. -/
def sha1BlockAt (bs : List Byte) (k : Nat) : Vector Byte 64 :=
  Vector.ofFn fun i : Fin 64 => bs.getD (64 * k + i.val) 0x00

/-- Standard SHA-1 of a byte string of any length: the digest words. -/
def sha1 (bs : List Byte) : Work :=
  (List.range ((sha1Pad bs).length / 64)).foldl (fun h k => sha1Block h (sha1BlockAt (sha1Pad bs) k)) shaIv

end Sys2Proof.Machine
end

