-- ==== Sys2Proof/Certificates/Slice0/Obligations.lean ====
section
/-! DEFINITION. The statements for the provers, from the numbered rules of the spec. -/

open Sys2Proof Sys2Proof.Machine

-- The encoding (30_encoding.md).

/-- R82: decode is total, decided in this order. -/
def Obligations.DecodeFollowsTheOrderOfTheSpec : Prop :=
  ∀ w : BusWord,
    (w.getLsbD 16 = false → decode w = .rd (w.extractLsb' 8 8)) ∧
    (w.getLsbD 16 = true → w.extractLsb' 8 8 = 0x00 →
      (w.extractLsb' 0 8 = 0x00 → decode w = .nop) ∧
      (w.extractLsb' 0 8 = 0x01 → decode w = .crcInit) ∧
      (w.extractLsb' 0 8 = 0x02 → decode w = .crcCheck) ∧
      (w.extractLsb' 0 8 = 0x03 → decode w = .clrErr) ∧
      (w.extractLsb' 0 8 = 0x10 → decode w = .macAssemble) ∧
      (w.extractLsb' 0 8 = 0x11 → decode w = .macRun) ∧
      (w.extractLsb' 0 8 = 0x12 → decode w = .macGen) ∧
      (w.extractLsb' 0 8 ∉ ([0x00, 0x01, 0x02, 0x03, 0x10, 0x11, 0x12] : List Byte) →
        decode w = .cmdUndef (w.extractLsb' 0 8))) ∧
    (w.getLsbD 16 = true → w.extractLsb' 8 8 = 0x04 → decode w = .crcFeed (w.extractLsb' 0 8)) ∧
    (w.getLsbD 16 = true → w.extractLsb' 8 8 ≠ 0x00 → w.extractLsb' 8 8 ≠ 0x04 →
      decode w = .wr (w.extractLsb' 8 8) (w.extractLsb' 0 8))

/-- R83: the command words and the forms of the other transactions, as numbers. -/
def Obligations.WordsOfTheCommandTableDecode : Prop :=
  decode 0x10000 = .nop ∧ decode 0x10001 = .crcInit ∧ decode 0x10002 = .crcCheck ∧
  decode 0x10003 = .clrErr ∧ decode 0x10010 = .macAssemble ∧ decode 0x10011 = .macRun ∧
  decode 0x10012 = .macGen ∧
  (∀ d : Byte, decode (BitVec.ofNat 17 (0x10400 + d.toNat)) = .crcFeed d) ∧
  (∀ a d : Byte, a ≠ 0x00 → a ≠ 0x04 →
    decode (BitVec.ofNat 17 (0x10000 + 0x100 * a.toNat + d.toNat)) = .wr a d) ∧
  (∀ a x : Byte, decode (BitVec.ofNat 17 (0x100 * a.toNat + x.toNat)) = .rd a) ∧
  (∀ a : Byte, encode (.rd a) = BitVec.ofNat 17 (0x100 * a.toNat))

/-- Decode and encode agree: no operand bit of any transaction is dropped (R80, R82). -/
def Obligations.DecodeOfEncodeIsTheInstruction : Prop :=
  ∀ i : Instr, i.WellFormed → decode (encode i) = i

/-- Every word of a write is the only word of its instruction, and a read's DATA is ignored, its
canonical value being 0x00 (R80, R86). -/
def Obligations.EncodeOfDecodeIsTheCanonicalWord : Prop :=
  ∀ w : BusWord, encode (decode w) = if w.getLsbD 16 then w else w &&& 0x1FF00

/-- Decode gives well-formed instructions only, on all 2^17 words (R82, R85). -/
def Obligations.DecodedInstructionsAreWellFormed : Prop :=
  ∀ w : BusWord, (decode w).WellFormed

-- The register window (10_state.md, 20_memory.md).

/-- R22: which byte each window address names, and its access: a read/write byte is writable and
readable, a write to a read-only byte is ignored, and a write-only byte reads 0x00. -/
def Obligations.RegisterMapNamesEveryAddress : Prop :=
  locate 0x00 = .cmd ∧ locate 0x01 = .status ∧ locate 0x02 = .crcLo ∧ locate 0x03 = .crcHi ∧
  locate 0x04 = .crcDin ∧ locate 0x05 = .crcRx0 ∧ locate 0x06 = .crcRx1 ∧
  (∀ i : Fin 8, locate (BitVec.ofNat 8 (0x10 + i)) = .secret i) ∧
  (∀ i : Fin 8, locate (BitVec.ofNat 8 (0x18 + i)) = .serial i) ∧
  (∀ i : Fin 8, locate (BitVec.ofNat 8 (0x20 + i)) = .spad i) ∧
  locate 0x28 = .taddrLo ∧ locate 0x29 = .taddrHi ∧
  (∀ i : Fin 28, locate (BitVec.ofNat 8 (0x30 + i)) = .page i) ∧
  (∀ i : Fin 64, locate (BitVec.ofNat 8 (0x80 + i)) = .msg i) ∧
  (∀ i : Fin 20, locate (BitVec.ofNat 8 (0xC0 + i)) = .macout i) ∧
  (∀ a : Addr, locate a = .reserved ↔ isReservedAddress a = true) ∧
  (∀ a : Addr, accessOf (locate a) = .readWrite ↔ isReadWriteAddress a = true) ∧
  (∀ a : Addr, accessOf (locate a) = .writeOnly ↔ a = 0x00 ∨ a = 0x04) ∧
  (∀ a : Addr, accessOf (locate a) = .readOnly ↔
    (0x01 ≤ a.toNat ∧ a.toNat ≤ 0x03) ∨ (0x80 ≤ a.toNat ∧ a.toNat ≤ 0xD3)) ∧
  ∀ (s : State) (a : Addr) (d : Byte),
    (accessOf (locate a) = .readWrite →
      ∃ t, exec (.wr a d) s = .next t ∧ exec (.rd a) t = .next { t with rdata := some d }) ∧
    (accessOf (locate a) = .readOnly → exec (.wr a d) s = .next s) ∧
    (accessOf (locate a) = .writeOnly → exec (.rd a) s = .next { s with rdata := some 0x00 })

/-- Each of the eight STATUS bits, at its place (R24). -/
def Obligations.StatusReadsItsEightFields : Prop :=
  ∀ s : State,
    (statusByte s).getLsbD 0 = s.busy ∧ (statusByte s).getLsbD 1 = s.macValid ∧
    (statusByte s).getLsbD 2 = s.crcChecked ∧ (statusByte s).getLsbD 3 = s.crcOk ∧
    (statusByte s).getLsbD 4 = s.errCrc ∧ (statusByte s).getLsbD 5 = s.errCmd ∧
    (statusByte s).getLsbD 6 = s.errBusy ∧ (statusByte s).getLsbD 7 = s.build.crcPresent

/-- R35: a reserved address reads 0x00 and ignores writes, with no flag. -/
def Obligations.ReservedAddressesHoldNothing : Prop :=
  ∀ (s : State) (a : Addr) (d : Byte),
    (0x07 ≤ a.toNat ∧ a.toNat ≤ 0x0F) ∨ (0x2A ≤ a.toNat ∧ a.toNat ≤ 0x2F) ∨
      (0x4C ≤ a.toNat ∧ a.toNat ≤ 0x7F) ∨ (0xD4 ≤ a.toNat ∧ a.toNat ≤ 0xFF) →
    exec (.rd a) s = .next { s with rdata := some 0x00 } ∧ exec (.wr a d) s = .next s

/-- R62: a write to a read-only address is ignored and sets no flag. -/
def Obligations.WritesToReadOnlyAddressesAreIgnored : Prop :=
  ∀ (s : State) (a : Addr) (d : Byte),
    a = 0x01 ∨ a = 0x02 ∨ a = 0x03 ∨ (0x80 ≤ a.toNat ∧ a.toNat ≤ 0xBF) ∨
      (0xC0 ≤ a.toNat ∧ a.toNat ≤ 0xD3) →
    exec (.wr a d) s = .next s

/-- R63: a read of a write-only or reserved address returns 0x00 and has no effect. -/
def Obligations.WriteOnlyAddressesReadZero : Prop :=
  ∀ (s : State) (a : Addr), a = 0x00 ∨ a = 0x04 ∨ isReservedAddress a = true →
    exec (.rd a) s = .next { s with rdata := some 0x00 }

/-- A MACOUT read while BUSY = 1 returns the free byte of this draw, a fresh one for each
read, and changes nothing of the block (R64). The free value and its counter are the model's
form of "unspecified" (log 3, log 4). -/
def Obligations.MacoutReadWhileBusyIsAFreshDraw : Prop :=
  ∀ (s : State) (a : Addr), 0xC0 ≤ a.toNat → a.toNat ≤ 0xD3 → s.busy = true →
    exec (.rd a) s = .next { s with rdata := some (Config.freeByte s.draws), draws := s.draws + 1 } ∧
    exec (.rd a) { s with rdata := some (Config.freeByte s.draws), draws := s.draws + 1 }
      = .next { s with rdata := some (Config.freeByte (s.draws + 1)), draws := s.draws + 2 }

/-- No read changes what a later read of the window returns (R65). -/
def Obligations.ReadsLeaveTheWindowUnchanged : Prop :=
  ∀ (s t : State) (a b : Addr), exec (.rd a) s = .next t →
    SameButResponse s t ∧ (readIsFree s b = false → readByte t b = readByte s b)

/-- R70 item 1 and R62, by the read of one byte: a written read/write byte reads back as
written, and every other byte of the window reads as before; a WR elsewhere changes no byte (at
the addresses of CMD and CRC_DIN, where no word stands for a WR, by the model's choice: log 18). A
MACOUT byte while BUSY = 1 is read by the same draw before and after. -/
def Obligations.WrittenByteReadsBackAndNoOtherChanges : Prop :=
  ∀ (s : State) (a : Addr) (d : Byte),
    ∃ t, exec (.wr a d) s = .next t ∧
      (isReadWriteAddress a = true → readByte t a = d ∧ ∀ b, b ≠ a → readByte t b = readByte s b) ∧
      (isReadWriteAddress a = false → ∀ b, readByte t b = readByte s b)

-- The control transactions (42_control.md, 30_encoding.md R85).

/-- R180: NOP does nothing, whatever BUSY is. -/
def Obligations.NopChangesNothing : Prop :=
  decode 0x10000 = .nop ∧ ∀ s : State, exec .nop s = .next s

/-- R181: CLR_ERR clears the three sticky error flags and nothing else. -/
def Obligations.ClrErrClearsTheErrorFlags : Prop :=
  decode 0x10003 = .clrErr ∧
  ∀ s : State,
    exec .clrErr s = .next { s with errCrc := false, errCmd := false, errBusy := false } ∧
    (statusByte s = 0xF4 →
      statusByte { s with errCrc := false, errCmd := false, errBusy := false } = 0x84)

/-- R85: the undefined codes are the 249 others; such a write sets ERR_CMD and nothing else. That
software must not do it is in HostThatKeepsItsDutiesRaisesNoErrCmdOrErrBusy. -/
def Obligations.UndefinedCodeSetsErrCmdOnly : Prop :=
  (∀ c : Byte, c ∉ ([0x00, 0x01, 0x02, 0x03, 0x10, 0x11, 0x12] : List Byte) ↔
    (0x04 ≤ c.toNat ∧ c.toNat ≤ 0x0F) ∨ 0x13 ≤ c.toNat) ∧
  ((List.range 256).filter fun n =>
    decide (BitVec.ofNat 8 n ∉ ([0x00, 0x01, 0x02, 0x03, 0x10, 0x11, 0x12] : List Byte))).length = 249 ∧
  (∀ c : Byte, (0x04 ≤ c.toNat ∧ c.toNat ≤ 0x0F) ∨ 0x13 ≤ c.toNat →
    decode (busWord true 0x00 c) = .cmdUndef c) ∧
  ∀ (s : State) (c : Byte), (0x04 ≤ c.toNat ∧ c.toNat ≤ 0x0F) ∨ 0x13 ≤ c.toNat →
    exec (.cmdUndef c) s = .next { s with errCmd := true }

/-- R182: WR stores the byte in the read/write register its address names, and changes no
state at any other address; its words. -/
def Obligations.WrStoresInReadWriteRegistersOnly : Prop :=
  (∀ a d : Byte, a ≠ 0x00 → a ≠ 0x04 → decode (busWord true a d) = .wr a d) ∧
  decode 0x110AA = .wr 0x10 0xAA ∧ decode 0x18055 = .wr 0x80 0x55 ∧
  ∀ (s : State) (d : Byte),
    exec (.wr 0x05 d) s = .next { s with crcRx0 := d } ∧
    exec (.wr 0x06 d) s = .next { s with crcRx1 := d } ∧
    (∀ i : Fin 8, exec (.wr (BitVec.ofNat 8 (0x10 + i)) d) s = .next { s with secret := s.secret.set i d }) ∧
    (∀ i : Fin 8, exec (.wr (BitVec.ofNat 8 (0x18 + i)) d) s = .next { s with serial := s.serial.set i d }) ∧
    (∀ i : Fin 8, exec (.wr (BitVec.ofNat 8 (0x20 + i)) d) s = .next { s with spad := s.spad.set i d }) ∧
    exec (.wr 0x28 d) s = .next { s with taddrLo := d } ∧
    exec (.wr 0x29 d) s = .next { s with taddrHi := d } ∧
    (∀ i : Fin 28, exec (.wr (BitVec.ofNat 8 (0x30 + i)) d) s = .next { s with page := s.page.set i d }) ∧
    (∀ a : Addr, a ≠ 0x00 → a ≠ 0x04 → isReadWriteAddress a = false → exec (.wr a d) s = .next s)

/-- R183: RD returns the byte its address names and changes no state; its words. A MACOUT byte
while BUSY = 1 is some byte, and the read uses up at most draws of the model (log 4). -/
def Obligations.RdReturnsTheNamedByte : Prop :=
  (∀ a x : Byte, decode (busWord false a x) = .rd a) ∧
  decode 0x00100 = .rd 0x01 ∧
  (∃ t, exec (.rd 0x01) State.reset = .next t ∧ t.rdata = some 0x80) ∧
  ∀ s : State,
    exec (.rd 0x00) s = .next { s with rdata := some 0x00 } ∧
    exec (.rd 0x04) s = .next { s with rdata := some 0x00 } ∧
    (∀ a : Addr, isReservedAddress a = true → exec (.rd a) s = .next { s with rdata := some 0x00 }) ∧
    exec (.rd 0x01) s = .next { s with rdata := some (statusByte s) } ∧
    exec (.rd 0x02) s
      = .next { s with rdata := some (if s.build.crcPresent then s.crc.setWidth 8 else 0x00) } ∧
    exec (.rd 0x03) s
      = .next { s with rdata := some (if s.build.crcPresent then (s.crc >>> 8).setWidth 8 else 0x00) } ∧
    exec (.rd 0x05) s = .next { s with rdata := some s.crcRx0 } ∧
    exec (.rd 0x06) s = .next { s with rdata := some s.crcRx1 } ∧
    (∀ i : Fin 8, exec (.rd (BitVec.ofNat 8 (0x10 + i))) s = .next { s with rdata := some s.secret[i] }) ∧
    (∀ i : Fin 8, exec (.rd (BitVec.ofNat 8 (0x18 + i))) s = .next { s with rdata := some s.serial[i] }) ∧
    (∀ i : Fin 8, exec (.rd (BitVec.ofNat 8 (0x20 + i))) s = .next { s with rdata := some s.spad[i] }) ∧
    exec (.rd 0x28) s = .next { s with rdata := some s.taddrLo } ∧
    exec (.rd 0x29) s = .next { s with rdata := some s.taddrHi } ∧
    (∀ i : Fin 28, exec (.rd (BitVec.ofNat 8 (0x30 + i))) s = .next { s with rdata := some s.page[i] }) ∧
    (∀ i : Fin 64, exec (.rd (BitVec.ofNat 8 (0x80 + i))) s = .next { s with rdata := some s.msg[i] }) ∧
    (∀ i : Fin 20, s.busy = false →
      exec (.rd (BitVec.ofNat 8 (0xC0 + i))) s = .next { s with rdata := some s.macout[i] }) ∧
    (∀ i : Fin 20, s.busy = true →
      ∃ (v : Byte) (n : Nat),
        exec (.rd (BitVec.ofNat 8 (0xC0 + i))) s = .next { s with rdata := some v, draws := n })

-- The CRC unit (40_crc16.md).

/-- R100: the default CRC_STEP, eight times a shift and an XOR with 0xA001. -/
def Obligations.DefaultCrcStepShiftsEightTimes : Prop :=
  ∀ (b : Config.Build), b.crcStepTable = [] → ∀ (c : Half) (v : Byte),
    ∃ x : Nat → Half, x 0 = c ^^^ v.setWidth 16 ∧
      (∀ i, i < 8 → x (i + 1) = if (x i).getLsbD 0 then (x i >>> 1) ^^^ 0xA001 else x i >>> 1) ∧
      crcStepOf b c v = x 8

/-- R7: CRC_STEP is a parameter of the build, and every function of its type is the CRC_STEP of
some build of the model (log 9). -/
def Obligations.EveryCrcStepIsSomeBuild : Prop :=
  ∀ f : Half → Byte → Half, ∃ table, ∀ b : Config.Build, b.crcStepTable = table →
    ∀ c v, crcStepOf b c v = f c v

/-- R101: the CRC of a byte sequence starts from the seed 0x0000 and takes the bytes in order. -/
def Obligations.CrcOfASequenceFoldsCrcStep : Prop :=
  ∀ b : Config.Build, crc16 b [] = 0x0000 ∧
    ∀ (bs : List Byte) (v : Byte), crc16 b (bs ++ [v]) = crcStepOf b (crc16 b bs) v

/-- R103: CRC_FEED. -/
def Obligations.CrcFeedStepsTheAccumulator : Prop :=
  (∀ d : Byte, decode (0x10400 ||| d.setWidth 17) = .crcFeed d) ∧
  (∀ (s : State) (d : Byte),
    (s.build.crcPresent = true → exec (.crcFeed d) s = .next { s with crc := crcStepOf s.build s.crc d }) ∧
    (s.build.crcPresent = false → exec (.crcFeed d) s = .next s)) ∧
  ∀ s : State, s.build.crcPresent = true → s.build.crcStepTable = [] → s.crc = 0x0000 →
    exec (.crcFeed 0x00) s = .next s ∧ exec (.crcFeed 0x01) s = .next { s with crc := 0xC0C1 }

/-- R104: CRC_INIT. -/
def Obligations.CrcInitStartsAnAccumulation : Prop :=
  decode 0x10001 = .crcInit ∧
  (∀ s : State,
    (s.build.crcPresent = true →
      exec .crcInit s = .next { s with crc := 0x0000, crcChecked := false, crcOk := false }) ∧
    (s.build.crcPresent = false →
      exec .crcInit s = .next { s with crcChecked := false, crcOk := false })) ∧
  ∀ s : State, s.crc = 0xD0C0 → statusByte s = 0x8C →
    ∃ t, exec .crcInit s = .next t ∧ t.crc = 0x0000 ∧ statusByte t = 0x80

/-- R106 and R105: CRC_CHECK compares the complement of CRC with RX and sets the flags. -/
def Obligations.CrcCheckComparesTheComplement : Prop :=
  decode 0x10002 = .crcCheck ∧
  (∀ s : State,
    (s.build.crcPresent = false → exec .crcCheck s = .next { s with crcChecked := true, crcOk := true }) ∧
    (s.build.crcPresent = true →
      (~~~s.crc = (s.crcRx1.setWidth 16 <<< 8 ||| s.crcRx0.setWidth 16 : Half) →
        exec .crcCheck s = .next { s with crcChecked := true, crcOk := true }) ∧
      (~~~s.crc ≠ (s.crcRx1.setWidth 16 <<< 8 ||| s.crcRx0.setWidth 16 : Half) →
        exec .crcCheck s = .next { s with crcChecked := true, crcOk := false, errCrc := true }))) ∧
  (∀ s : State, s.build.crcPresent = true → s.crc = 0x0000 →
    ((∃ t, exec .crcCheck s = .next t ∧ t.crcOk = true) ↔ s.crcRx0 = 0xFF ∧ s.crcRx1 = 0xFF)) ∧
  ∀ s : State, s.crc = 0xD0C0 → s.crcRx0 = 0x3F → s.crcRx1 = 0x2F → statusByte s = 0x80 →
    (s.build.crcStepTable = [] →
      s.crc = crc16 s.build [0x0F, 0x00, 0x00, 0x01, 0x02, 0x03, 0x04, 0x05, 0x06, 0x07, 0x08]) ∧
    ∃ t, exec .crcCheck s = .next t ∧ t.crcChecked = true ∧ t.crcOk = true ∧ statusByte t = 0x8C

/-- The residue: the comparison of R105 passes exactly when feeding the two received bytes leaves 0xB001.
The spec marks R107 as derived from R100 and R105. -/
def Obligations.PassingFrameLeavesTheResidue : Prop :=
  ∀ b : Config.Build, b.crcStepTable = [] → ∀ (bs : List Byte) (r0 r1 : Byte),
    FramePasses b bs r0 r1 ↔ crc16 b (bs ++ [r0, r1]) = 0xB001

/-- A frame that passes the comparison of R105 fails it once exactly one bit of a fed byte or of
the received bytes is flipped; so with CRC_PRESENT = 1 a CRC_CHECK of the flipped frame fails, and
with CRC_PRESENT = 0 no error is detected. The spec marks the block's part of R108 as derived. -/
def Obligations.SingleFlippedBitFailsTheCheck : Prop :=
  ∀ b : Config.Build, b.crcStepTable = [] →
    ∀ (k : Nat) (bs bs' : List Byte) (r0 r1 r0' r1' : Byte), k < 8 →
      OneBitFlipped k bs r0 r1 bs' r0' r1' → FramePasses b bs r0 r1 →
      ¬ FramePasses b bs' r0' r1' ∧
      ∀ s : State, s.build = b → s.crc = crc16 b bs' → s.crcRx0 = r0' → s.crcRx1 = r1' →
        ∃ t, exec .crcCheck s = .next t ∧
          (b.crcPresent = true → t.crcOk = false ∧ t.errCrc = true) ∧
          (b.crcPresent = false → t.crcOk = true ∧ t.errCrc = s.errCrc)

/-- The accumulator is the CRC of the bytes fed since the last CRC_INIT or reset, through any
steps of either agent and any resets. The spec marks R102 as derived. -/
def Obligations.AccumulatorIsTheCrcOfTheBytesFed : Prop :=
  ∀ (slots rest : List Slot) (s : State) (fed : List Byte), s.build.crcPresent = true →
    s.inputs = slots ++ rest → s.crc = crc16 s.build fed →
    ∃ t, core.run slots.length s = .next t ∧ t.inputs = rest ∧
      t.crc = crc16 s.build (slots.foldl (fun f slot => fedAfter slot f) fed)

-- The MAC unit (41_mac.md).

/-- R131 and R140: MAC_ASSEMBLE builds MSG by the layout and clears MAC_VALID; while BUSY = 1 it
is dropped and sets ERR_BUSY only. -/
def Obligations.MacAssembleBuildsTheMessage : Prop :=
  decode 0x10010 = .macAssemble ∧
  (∀ s : State, s.busy = false →
    ∃ m, MsgLayout s m ∧ exec .macAssemble s = .next { s with msg := m, macValid := false }) ∧
  (∀ s : State, s.busy = true → exec .macAssemble s = .next { s with errBusy := true }) ∧
  ∃ t, exec .macAssemble State.reset = .next t ∧ t.macValid = false ∧
    t.msg.toList = List.replicate 52 0x00 ++
      [0xFF, 0xFF, 0xFF, 0x80, 0x00, 0x00, 0x00, 0x00, 0x00, 0x00, 0x01, 0xB8]

/-- R132: the page-number byte takes TADDR bits 7:5, over the whole range of TADDR. -/
def Obligations.PageNumberByteIsTaddrBits7To5 : Prop :=
  ∀ s : State, s.busy = false →
    ∃ t, exec .macAssemble s = .next t ∧
      (t.msg[40]).toNat = (targetAddress s).toNat % 0x100 / 0x20 ∧
      (∀ k, k < 3 → (t.msg[40]).getLsbD k = s.taddrLo.getLsbD (5 + k)) ∧
      (∀ k, 3 ≤ k → (t.msg[40]).getLsbD k = false)

/-- R141: MAC_RUN, and what the MAC agent's step then leaves; its example is vector V1. -/
def Obligations.MacRunStartsTheCompression : Prop :=
  decode 0x10011 = .macRun ∧
  (∀ s : State, s.busy = false → exec .macRun s = .next { s with macValid := false, busy := true }) ∧
  (∀ s : State, s.busy = true → exec .macRun s = .next { s with errBusy := true }) ∧
  (∀ (s t : State) (rest : List Slot), s.busy = false → exec .macRun s = .next t →
    ∃ u, step (setInputs (⟨false, .mac⟩ :: rest) t) = .next u ∧ u.macout = serializeMac (macf s.msg)) ∧
  serializeMac (macf (assembledMsg State.reset)) =
    #v[0x90, 0x06, 0xA7, 0x2F, 0x57, 0x8E, 0xAE, 0x3D, 0x50, 0xCA, 0x52, 0xDE, 0x49, 0x18, 0xAC, 0xEF,
      0xF9, 0x25, 0x96, 0x6E]

/-- R142: MAC_GEN, and what the MAC agent's step then leaves; its example is vector V2. -/
def Obligations.MacGenAssemblesAndStarts : Prop :=
  decode 0x10012 = .macGen ∧
  (∀ s : State, s.busy = false →
    ∃ m, MsgLayout s m ∧ exec .macGen s = .next { s with msg := m, macValid := false, busy := true }) ∧
  (∀ s : State, s.busy = true → exec .macGen s = .next { s with errBusy := true }) ∧
  (∀ (s t : State) (rest : List Slot), s.busy = false → exec .macGen s = .next t →
    ∃ u, step (setInputs (⟨false, .mac⟩ :: rest) t) = .next u ∧
      ∃ m, MsgLayout s m ∧ u.macout = serializeMac (macf m)) ∧
  ∀ m, MsgLayout { State.reset with
      spad := #v[1, 2, 3, 4, 5, 6, 7, 8], serial := #v[0x33, 0xA1, 0xB2, 0xC3, 0xD4, 0xE5, 0xF6, 0x07] } m →
    macf m = ⟨0x60EB5957, 0x71A50B95, 0x1E7FCA50, 0x0D9EAEAE, 0x1DF82A61⟩

/-- R133 to R138: MACF is the eighty rounds over the schedule from IV, and adds nothing to
the working variables after round 79. -/
def Obligations.MacfIsEightyRoundsWithoutFeedForward : Prop :=
  ∀ m : Vector Byte 64, ∃ (W : Nat → Word) (x : Nat → Work),
    (∀ t, (h : t < 16) → W t =
      (m[4 * t]).setWidth 32 <<< 24 ||| (m[4 * t + 1]).setWidth 32 <<< 16 |||
        (m[4 * t + 2]).setWidth 32 <<< 8 ||| (m[4 * t + 3]).setWidth 32) ∧
    (∀ t, 16 ≤ t → t < 80 →
      W t = (W (t - 3) ^^^ W (t - 8) ^^^ W (t - 14) ^^^ W (t - 16)).rotateLeft 1) ∧
    x 0 = ⟨0x67452301, 0xEFCDAB89, 0x98BADCFE, 0x10325476, 0xC3D2E1F0⟩ ∧
    (∀ t, t < 80 →
      (x (t + 1)).e = (x t).d ∧ (x (t + 1)).d = (x t).c ∧ (x (t + 1)).c = (x t).b.rotateLeft 30 ∧
      (x (t + 1)).b = (x t).a ∧
      (t < 20 → (x (t + 1)).a = (x t).a.rotateLeft 5 + (((x t).b &&& (x t).c) ||| (~~~(x t).b &&& (x t).d))
        + (x t).e + 0x5A827999 + W t) ∧
      (20 ≤ t → t < 40 → (x (t + 1)).a = (x t).a.rotateLeft 5 + ((x t).b ^^^ (x t).c ^^^ (x t).d)
        + (x t).e + 0x6ED9EBA1 + W t) ∧
      (40 ≤ t → t < 60 → (x (t + 1)).a = (x t).a.rotateLeft 5
        + (((x t).b &&& (x t).c) ||| ((x t).b &&& (x t).d) ||| ((x t).c &&& (x t).d))
        + (x t).e + 0x8F1BBCDC + W t) ∧
      (60 ≤ t → (x (t + 1)).a = (x t).a.rotateLeft 5 + ((x t).b ^^^ (x t).c ^^^ (x t).d)
        + (x t).e + 0xCA62C1D6 + W t)) ∧
    macf m = x 80

/-- R145: MAC completion writes MACOUT in wire order, words e, d, c, b, a, each
least-significant byte first. -/
def Obligations.MacoutIsInWireOrder : Prop :=
  ∀ (s : State) (rest : List Slot), s.busy = true → s.inputs = ⟨false, .mac⟩ :: rest →
    ∃ t, step s = .next t ∧ ∀ (j : Nat), (h : j < 4) →
      t.macout[j] = ((macf s.msg).e >>> (8 * j)).setWidth 8 ∧
      t.macout[4 + j] = ((macf s.msg).d >>> (8 * j)).setWidth 8 ∧
      t.macout[8 + j] = ((macf s.msg).c >>> (8 * j)).setWidth 8 ∧
      t.macout[12 + j] = ((macf s.msg).b >>> (8 * j)).setWidth 8 ∧
      t.macout[16 + j] = ((macf s.msg).a >>> (8 * j)).setWidth 8

/-- R143: MAC completion, one atomic step whenever the next input is the MAC agent's turn while
BUSY = 1; a reset before it abandons it. What the hidden state then holds is not stated. The fairness
assumption R143 ends with is no rule of the block (log 2). -/
def Obligations.MacCompletionWritesMacout : Prop :=
  ∀ (s : State) (rest : List Slot), s.busy = true →
    (s.inputs = ⟨false, .mac⟩ :: rest →
      ∃ h, step s = .next { s with
        inputs := rest, macout := serializeMac (macf s.msg), busy := false, macValid := true, hidden := h }) ∧
    ∀ turn, s.inputs = ⟨true, turn⟩ :: rest →
      ∃ t, step s = .next t ∧ t.busy = false ∧ t.macValid = false ∧ t.macout = Vector.replicate 20 0x00

/-- The message has one input bit for every input bit of the layout and no more: two accepted
MAC_GENs of one build give the same MSG exactly when the inputs agree but for SERIAL[7], TADDR_HI
and TADDR bits 4:0. The spec marks R149 as derived from R131 and R132. -/
def Obligations.MessageHoldsExactlyTheInputBitsOfTheLayout : Prop :=
  ∀ s s' t t' : State, s.busy = false → s'.busy = false → s.build = s'.build →
    exec .macGen s = .next t → exec .macGen s' = .next t' →
    (t.msg = t'.msg ↔
      s.secret = s'.secret ∧ s.page = s'.page ∧ s.spad = s'.spad ∧
      (∀ i, (h : i < 7) → s.serial[i] = s'.serial[i]) ∧ s.taddrLo >>> 5 = s'.taddrLo >>> 5)

/-- The SHA-1 cross-check: with the default MAC_PAD, standard SHA-1 of the first 55 bytes of
an assembled message is MACF of the message plus IV. The spec marks R139 as derived. -/
def Obligations.Sha1OfTheMessageIsMacfPlusIv : Prop :=
  ∀ s t : State, s.busy = false → s.build.macPad = macPadDefault → exec .macAssemble s = .next t →
    sha1 (t.msg.toList.take 55) =
      ⟨(macf t.msg).a + 0x67452301, (macf t.msg).b + 0xEFCDAB89, (macf t.msg).c + 0x98BADCFE,
        (macf t.msg).d + 0x10325476, (macf t.msg).e + 0xC3D2E1F0⟩

/-- While BUSY = 1 no host transaction touches the MAC in flight, whatever it writes
(41_mac.md R144, R142). -/
def Obligations.HostTransactionsKeepTheMacInFlight : Prop :=
  ∀ (s : State) (w : BusWord) (rest : List Slot), s.busy = true → s.inputs = hostSlot w :: rest →
    ∃ t, step s = .next t ∧ t.busy = true ∧ t.msg = s.msg ∧ t.macout = s.macout ∧
      t.macValid = s.macValid ∧ t.inputs = rest

/-- A MAC in flight completes with the MAC of the message that stood when it was accepted, after
any number of host transactions, at the MAC agent's turn or once the host issues no more
(R143, R144, 00_scope.md R9). The last case is the model's form of weak fairness (log 2). -/
def Obligations.MacInFlightCompletesOverItsMessage : Prop :=
  ∀ (s : State) (words : List BusWord) (rest : List Slot), s.busy = true →
    (s.inputs = words.map hostSlot ++ ⟨false, .mac⟩ :: rest ∨ (rest = [] ∧ s.inputs = words.map hostSlot)) →
    ∃ t, core.run (words.length + 1) s = .next t ∧ t.busy = false ∧ t.macValid = true ∧
      t.msg = s.msg ∧ t.macout = serializeMac (macf s.msg) ∧ t.inputs = rest

/-- MACF vectors V1, V2 and V10 of 95_test_vectors.md. -/
def Obligations.MacVectorsOfTheSpecHold : Prop :=
  macf (assembledMsg State.reset) = ⟨0x6E9625F9, 0xEFAC1849, 0xDE52CA50, 0x3DAE8E57, 0x2FA70690⟩ ∧
  macf (assembledMsg { State.reset with
      spad := #v[1, 2, 3, 4, 5, 6, 7, 8], serial := #v[0x33, 0xA1, 0xB2, 0xC3, 0xD4, 0xE5, 0xF6, 0x07] })
    = ⟨0x60EB5957, 0x71A50B95, 0x1E7FCA50, 0x0D9EAEAE, 0x1DF82A61⟩ ∧
  macf State.reset.msg = ⟨0x2B6EE1E4, 0x668AE164, 0xD35FF050, 0xAED2EAF2, 0x462458A3⟩

-- Errors (60_exceptions.md).

/-- R66: every host transaction completes, in every state, and no step stops. -/
def Obligations.EveryTransactionCompletes : Prop :=
  (∀ (i : Instr) (s : State), ∃ t, exec i s = .next t) ∧
  ∀ (n : Nat) (s : State), ∃ t, core.run n s = .next t

/-- R202: a sticky error flag stays set through every step but CLR_ERR and reset, which clear
it; CRC_OK is not sticky and reports the last check only. -/
def Obligations.ErrorFlagsStayUntilClrErrOrReset : Prop :=
  (∀ (s t : State) (e : ErrorCondition), errorFlag s e = true → step s = .next t →
    (∀ slot, s.inputs.head? = some slot →
      slot.reset = false ∧ ∀ w, slot.turn = .host w → decode w ≠ .clrErr) →
    errorFlag t e = true) ∧
  (∀ (s : State) (rest : List Slot) (e : ErrorCondition),
    (∃ w, decode w = .clrErr ∧ s.inputs = hostSlot w :: rest) ∨ (∃ turn, s.inputs = ⟨true, turn⟩ :: rest) →
    ∃ t, step s = .next t ∧ errorFlag t e = false) ∧
  ∀ s : State, ∃ t, exec .crcCheck s = .next t ∧ (t.crcOk = true ↔ s.build.crcPresent = false ∨
    ~~~s.crc = (s.crcRx1.setWidth 16 <<< 8 ||| s.crcRx0.setWidth 16 : Half))

/-- R201: each error flag rises for its cause and only for it, at the STATUS bit of its cause
code, and nothing else is recorded: a transaction with the cause leaves the flag (for CRC_CHECK
also CRC_CHECKED = 1 and CRC_OK = 0) and every other field as it was, so neither the undefined code
nor the dropped command is kept, and CRC, CRC_RX0 and CRC_RX1 keep their values. -/
def Obligations.ErrorFlagsRiseOnlyForTheirCause : Prop :=
  (∀ (s t : State) (e : ErrorCondition), errorFlag s e = false → step s = .next t → errorFlag t e = true →
    ∃ (w : BusWord) (rest : List Slot), s.inputs = hostSlot w :: rest ∧ ErrorCause s (decode w) e) ∧
  (∀ (s : State) (w : BusWord) (e : ErrorCondition), ErrorCause s (decode w) e →
    exec (decode w) s = .next (afterError s e)) ∧
  ∀ s : State, (statusByte s).getLsbD 4 = errorFlag s .crc ∧ (statusByte s).getLsbD 5 = errorFlag s .cmd ∧
    (statusByte s).getLsbD 6 = errorFlag s .busy ∧
    causeCode .crc = 4 ∧ causeCode .cmd = 5 ∧ causeCode .busy = 6

/-- One transaction sets at most one error flag. The spec marks R203 item 1 as derived. -/
def Obligations.OneTransactionSetsAtMostOneErrorFlag : Prop :=
  ∀ (i : Instr) (s t : State), exec i s = .next t → ∀ e e' : ErrorCondition,
    errorFlag s e = false → errorFlag t e = true → errorFlag s e' = false → errorFlag t e' = true → e = e'

/-- Only commands write flags: CRC_FEED, WR and RD leave STATUS as it is. The spec marks R38
as derived. -/
def Obligations.OnlyCommandsWriteFlags : Prop :=
  ∀ (i : Instr) (s t : State), exec i s = .next t → statusByte t ≠ statusByte s →
    (∀ d, i ≠ .crcFeed d) ∧ (∀ a d, i ≠ .wr a d) ∧ (∀ a, i ≠ .rd a)

/-- Which steps write each register (R102, R33, R34, R27 to R32): a register that a step without a
reset changed was changed by one of its writers, the MAC agent's step after the last input (log 2)
among the steps. -/
def Obligations.RegistersChangeOnlyByTheirWriters : Prop :=
  ∀ s t : State, (∀ slot, s.inputs.head? = some slot → slot.reset = false) → step s = .next t →
    (t.crc ≠ s.crc → ∃ w rest, s.inputs = hostSlot w :: rest ∧
      (decode w = .crcInit ∨ ∃ d, decode w = .crcFeed d)) ∧
    (t.msg ≠ s.msg → ∃ w rest, s.inputs = hostSlot w :: rest ∧
      (decode w = .macAssemble ∨ decode w = .macGen)) ∧
    (t.macout ≠ s.macout → s.busy = true ∧ (s.inputs = [] ∨ ∃ rest, s.inputs = ⟨false, .mac⟩ :: rest)) ∧
    ((t.crcRx0, t.crcRx1, t.secret, t.serial, t.spad, t.taddrLo, t.taddrHi, t.page)
        ≠ (s.crcRx0, s.crcRx1, s.secret, s.serial, s.spad, s.taddrLo, s.taddrHi, s.page) →
      ∃ w rest a d, s.inputs = hostSlot w :: rest ∧ decode w = .wr a d ∧ isReadWriteAddress a = true)

/-- A host that keeps its duties (R85, R233, R234, as the model's predicate HostDuty has them:
log 16) raises neither ERR_CMD nor ERR_BUSY, and reads no unspecified byte: the count of draws, the
model's own (log 4), stands. ERR_CRC may still rise. To write an undefined code breaks a duty (R85). -/
def Obligations.HostThatKeepsItsDutiesRaisesNoErrCmdOrErrBusy : Prop :=
  (∀ (i : Instr) (s t : State), HostDuty s i → exec i s = .next t →
    (t.errCmd = true → s.errCmd = true) ∧ (t.errBusy = true → s.errBusy = true) ∧ t.draws = s.draws) ∧
  ∀ (s : State) (c : Byte), ¬ HostDuty s (.cmdUndef c)

-- Steps, reset and the end of a run (10_state.md R40, 70_reset_and_hazards.md).

/-- A step runs the decoded instruction: where the host's next transaction is the word w, the
step is exec of the decoded instruction on the state with the slot taken off and no RDATA; while
BUSY = 1 after it the hidden MAC state then takes a free value (R40, R36, R82; log 1, log 5, log 6). -/
def Obligations.StepRunsTheDecodedTransaction : Prop :=
  (∀ (s t : State) (w : BusWord) (rest : List Slot), s.inputs = hostSlot w :: rest →
    exec (decode w) { s with inputs := rest, rdata := none } = .next t →
    step s = .next
      (if t.busy then { t with hidden := Config.freeHidden t.draws, draws := t.draws + 1 } else t)) ∧
  ∀ (s : State) (nbits : Nat) (w : BusWord),
    (s.withFetchWord nbits w.toNat) = { s with inputs := hostSlot w :: s.inputs } ∧
    decodeTableWord nbits w.toNat = some (decode w)

/-- R230: the one reset event, power-on or the reset input, whoever's turn it was: every register
takes its reset value and no MAC is pending. Of the hidden state nothing is stated. That the build
and the inputs still to come stay, and so that the transaction of the reset's slot is lost, is the
model's reading (log 14, DEDUCED). -/
def Obligations.ResetEventSetsEveryRegister : Prop :=
  (∀ b : Config.Build, (powerOn b).build = b ∧ AtResetValues (powerOn b)) ∧
  ∀ (s : State) (turn : Turn) (rest : List Slot), s.inputs = ⟨true, turn⟩ :: rest →
    ∃ t, step s = .next t ∧ t.build = s.build ∧ t.inputs = rest ∧ AtResetValues t

/-- The state after power-on (R230), by what the host can read, in the default build. -/
def Obligations.ResetStateReadsAsTheSpecSays : Prop :=
  readByte State.reset 0x01 = 0x80 ∧ (∀ a : Addr, a ≠ 0x01 → readByte State.reset a = 0x00) ∧
  pendingMac State.reset = none

/-- Both orders of MAC completion and a host access are admitted: a STATUS read then returns
BUSY = 1 or BUSY = 0, and MACOUT is the same after both (R203 item 2, R40). -/
def Obligations.BothOrdersOfCompletionAndReadAreAdmitted : Prop :=
  ∀ (s : State) (rest : List Slot), s.busy = true →
    ∃ t u v : State,
      core.run 1 (setInputs (hostSlot 0x00100 :: ⟨false, .mac⟩ :: rest) s) = .next t ∧
      (∃ r, t.rdata = some r ∧ r.getLsbD 0 = true) ∧
      core.run 2 (setInputs (hostSlot 0x00100 :: ⟨false, .mac⟩ :: rest) s) = .next u ∧
      core.run 2 (setInputs (⟨false, .mac⟩ :: hostSlot 0x00100 :: rest) s) = .next v ∧
      (∃ r, v.rdata = some r ∧ r.getLsbD 0 = false) ∧
      u.macout = v.macout ∧ u.busy = false ∧ v.busy = false

/-- The end of a run (R240): with no transaction to come and BUSY = 0 no step changes anything;
with BUSY = 1 the MAC agent still has its step. That nothing moves once the inputs are used up is
the model's form of R240 (log 2). -/
def Obligations.EndedRunStaysAsItIs : Prop :=
  (∀ s : State, Ended s → ∀ n, core.run n s = .next s) ∧
  ∀ s : State, s.inputs = [] → s.busy = true → ∃ t, step s = .next t ∧ Ended t

/-- No step changes the build: STATUS bit 7 never changes (R24, R6). -/
def Obligations.BuildNeverChanges : Prop :=
  ∀ (n : Nat) (s t : State), core.run n s = .next t → t.build = s.build

/-- What the flags promise each other and MACOUT is kept by every step (R24, R104, R106,
R141 to R143). -/
def Obligations.EveryStepKeepsTheInvariant : Prop :=
  ∀ s t : State, BlockInv s → step s = .next t → BlockInv t

/-- The invariant holds after power-on of every build. -/
def Obligations.PowerOnMeetsTheInvariant : Prop :=
  ∀ b : Config.Build, BlockInv (powerOn b)

/-- The hidden MAC state is never observable: two machines that differ only in it differ only in
it after any number of steps (R36, R230). -/
def Obligations.HiddenMacStateIsNeverObserved : Prop :=
  ∀ (n : Nat) (s s' : State), SameButHidden s s' →
    ∃ t t', core.run n s = .next t ∧ core.run n s' = .next t' ∧ SameButHidden t t' ∧
      t.rdata = t'.rdata ∧ ∀ a, readByte t a = readByte t' a

/-- The MAC agent's turn, but for the completion of R143: while BUSY = 0 it uses up its slot and
changes nothing else (R40; log 15), and once the inputs are used up the step is MAC completion while
BUSY = 1, with that frame, and nothing while BUSY = 0 (the model's form of R239 and R240, log 2). -/
def Obligations.MacAgentStepsOnlyWhileBusy : Prop :=
  ∀ s : State,
    (∀ rest, s.busy = false → s.inputs = ⟨false, .mac⟩ :: rest → step s = .next { s with inputs := rest }) ∧
    (s.inputs = [] → s.busy = true → ∃ h, step s = .next { s with
      macout := serializeMac (macf s.msg), busy := false, macValid := true, hidden := h }) ∧
    (s.inputs = [] → s.busy = false → step s = .next s)

/-- The instructions that no word stands for, by the model's choice (log 18): a WR at the address of
CMD or CRC_DIN changes nothing, and an undefined-command instruction with a defined code sets
ERR_CMD only. Decode gives none of them (R82). -/
def Obligations.InstructionsNoWordStandsForAreHarmless : Prop :=
  ∀ (s : State) (i : Instr), ¬ i.WellFormed →
    (∀ a d, i = .wr a d → exec i s = .next s) ∧
    (∀ c, i = .cmdUndef c → exec i s = .next { s with errCmd := true }) ∧ ∀ w, decode w ≠ i

/-- What a write does when it is made twice (R65): each CRC_FEED feeds one more byte, a second
MAC_GEN before completion sets ERR_BUSY, a WR stores the same byte again and so does no more, and each
CRC_CHECK makes the comparison anew: after a CLR_ERR a failing check sets ERR_CRC again, and after a
new RX the new outcome stands. In a row a second CRC_CHECK leaves what the first left (R202; log 23). -/
def Obligations.WritesMadeTwiceRunTwice : Prop :=
  ∀ s : State,
    (∀ d, s.build.crcPresent = true → ∃ t, exec (.crcFeed d) s = .next t ∧
      exec (.crcFeed d) t = .next { s with crc := crcStepOf s.build (crcStepOf s.build s.crc d) d }) ∧
    (s.busy = false → ∃ t, exec .macGen s = .next t ∧ t.errBusy = s.errBusy ∧
      exec .macGen t = .next { t with errBusy := true }) ∧
    (∀ a d, a ≠ 0x00 → a ≠ 0x04 → ∃ t, exec (.wr a d) s = .next t ∧ exec (.wr a d) t = .next t) ∧
    ∃ t, exec .crcCheck s = .next t ∧ exec .crcCheck t = .next t ∧
      (t.crcOk = false → ∃ u, exec .clrErr t = .next u ∧ u.errCrc = false ∧
        ∃ v, exec .crcCheck u = .next v ∧ v.errCrc = true) ∧
      ∀ r0 r1, ∃ u v w, exec (.wr 0x05 r0) t = .next u ∧ exec (.wr 0x06 r1) u = .next v ∧
        exec .crcCheck v = .next w ∧ (w.crcOk = true ↔ s.build.crcPresent = false ∨
          ~~~s.crc = (r1.setWidth 16 <<< 8 ||| r0.setWidth 16 : Half))
end

