-- ==== Sys2Proof/Laws/Decode.lean ====
section
/-! SUPPORT. The fields of a word built from fields, and what decode gives for each class of words. -/

namespace Sys2Proof

@[simp] theorem we_busWord (we : Bool) (a : Addr) (d : Byte) : BusWord.we (busWord we a d) = we := by
  simp only [BusWord.we, busWord, BitVec.getLsbD_append]
  simp

@[simp] theorem addr_busWord (we : Bool) (a : Addr) (d : Byte) : BusWord.addr (busWord we a d) = a := by
  apply BitVec.eq_of_getLsbD_eq
  intro i hi
  simp only [BusWord.addr, busWord, BitVec.getLsbD_extractLsb', BitVec.getLsbD_append]
  have h1 : ¬ (8 + i < 8) := by omega
  simp [hi, h1]

@[simp] theorem data_busWord (we : Bool) (a : Addr) (d : Byte) : BusWord.data (busWord we a d) = d := by
  apply BitVec.eq_of_getLsbD_eq
  intro i hi
  simp only [BusWord.data, busWord, BitVec.getLsbD_extractLsb', BitVec.getLsbD_append]
  simp [hi]

/-- A word is its three fields (30_encoding.md R80). -/
theorem busWord_of_fields (w : BusWord) :
    busWord (BusWord.we w) (BusWord.addr w) (BusWord.data w) = w := by
  apply BitVec.eq_of_getLsbD_eq
  intro i hi
  simp only [BusWord.we, BusWord.addr, BusWord.data, busWord, BitVec.getLsbD_append,
    BitVec.getLsbD_extractLsb']
  by_cases h8 : i < 8
  · simp [h8]
  · by_cases h16 : i - 8 < 8
    · have : 8 + (i - 8) = i := by omega
      simp [h8, h16, this]
    · have : i = 16 := by omega
      subst this
      simp

theorem decode_read (a : Addr) (x : Byte) : decode (busWord false a x) = .rd a := by simp [decode]

theorem decode_command (c : Byte) : decode (busWord true 0x00 c) = decodeCommand c := by simp [decode]

theorem decode_feed (d : Byte) : decode (busWord true 0x04 d) = .crcFeed d := by simp [decode]

theorem decode_write (a : Addr) (d : Byte) (h0 : a ≠ 0x00) (h4 : a ≠ 0x04) :
    decode (busWord true a d) = .wr a d := by
  rw [decode, we_busWord, addr_busWord, data_busWord, if_neg (by decide), if_neg h0, if_neg h4]

/-- What a command code decodes to: one of the seven, or the undefined class (R83, R85). -/
theorem decodeCommand_cases (c : Byte) :
    (c = 0x00 ∧ decodeCommand c = .nop) ∨ (c = 0x01 ∧ decodeCommand c = .crcInit) ∨
    (c = 0x02 ∧ decodeCommand c = .crcCheck) ∨ (c = 0x03 ∧ decodeCommand c = .clrErr) ∨
    (c = 0x10 ∧ decodeCommand c = .macAssemble) ∨ (c = 0x11 ∧ decodeCommand c = .macRun) ∨
    (c = 0x12 ∧ decodeCommand c = .macGen) ∨ (c ∉ definedCodes ∧ decodeCommand c = .cmdUndef c) := by
  unfold decodeCommand definedCodes
  split_ifs <;> simp_all

end Sys2Proof
end

