-- ==== Sys2Proof/Laws/State.lean ====
section
/-! SUPPORT. What each update of State does to each field: one lemma per field per update, true by rfl. The reset event
is given by the fields of `powerOn`, and `assembleMsg` and `completeMac` by what they store. -/

namespace Sys2Proof.Machine

@[simp] theorem recordError_crc_build (s : State) : (recordError .crc s).build = s.build := rfl
@[simp] theorem recordError_crc_busy (s : State) : (recordError .crc s).busy = s.busy := rfl
@[simp] theorem recordError_crc_macValid (s : State) : (recordError .crc s).macValid = s.macValid := rfl
@[simp] theorem recordError_crc_crcChecked (s : State) : (recordError .crc s).crcChecked = s.crcChecked := rfl
@[simp] theorem recordError_crc_crcOk (s : State) : (recordError .crc s).crcOk = s.crcOk := rfl
@[simp] theorem recordError_crc_errCrc (s : State) : (recordError .crc s).errCrc = true := rfl
@[simp] theorem recordError_crc_errCmd (s : State) : (recordError .crc s).errCmd = s.errCmd := rfl
@[simp] theorem recordError_crc_errBusy (s : State) : (recordError .crc s).errBusy = s.errBusy := rfl
@[simp] theorem recordError_crc_crc (s : State) : (recordError .crc s).crc = s.crc := rfl
@[simp] theorem recordError_crc_crcRx0 (s : State) : (recordError .crc s).crcRx0 = s.crcRx0 := rfl
@[simp] theorem recordError_crc_crcRx1 (s : State) : (recordError .crc s).crcRx1 = s.crcRx1 := rfl
@[simp] theorem recordError_crc_secret (s : State) : (recordError .crc s).secret = s.secret := rfl
@[simp] theorem recordError_crc_serial (s : State) : (recordError .crc s).serial = s.serial := rfl
@[simp] theorem recordError_crc_spad (s : State) : (recordError .crc s).spad = s.spad := rfl
@[simp] theorem recordError_crc_taddrLo (s : State) : (recordError .crc s).taddrLo = s.taddrLo := rfl
@[simp] theorem recordError_crc_taddrHi (s : State) : (recordError .crc s).taddrHi = s.taddrHi := rfl
@[simp] theorem recordError_crc_page (s : State) : (recordError .crc s).page = s.page := rfl
@[simp] theorem recordError_crc_msg (s : State) : (recordError .crc s).msg = s.msg := rfl
@[simp] theorem recordError_crc_macout (s : State) : (recordError .crc s).macout = s.macout := rfl
@[simp] theorem recordError_crc_hidden (s : State) : (recordError .crc s).hidden = s.hidden := rfl
@[simp] theorem recordError_crc_inputs (s : State) : (recordError .crc s).inputs = s.inputs := rfl
@[simp] theorem recordError_crc_rdata (s : State) : (recordError .crc s).rdata = s.rdata := rfl
@[simp] theorem recordError_crc_draws (s : State) : (recordError .crc s).draws = s.draws := rfl

@[simp] theorem recordError_cmd_build (s : State) : (recordError .cmd s).build = s.build := rfl
@[simp] theorem recordError_cmd_busy (s : State) : (recordError .cmd s).busy = s.busy := rfl
@[simp] theorem recordError_cmd_macValid (s : State) : (recordError .cmd s).macValid = s.macValid := rfl
@[simp] theorem recordError_cmd_crcChecked (s : State) : (recordError .cmd s).crcChecked = s.crcChecked := rfl
@[simp] theorem recordError_cmd_crcOk (s : State) : (recordError .cmd s).crcOk = s.crcOk := rfl
@[simp] theorem recordError_cmd_errCrc (s : State) : (recordError .cmd s).errCrc = s.errCrc := rfl
@[simp] theorem recordError_cmd_errCmd (s : State) : (recordError .cmd s).errCmd = true := rfl
@[simp] theorem recordError_cmd_errBusy (s : State) : (recordError .cmd s).errBusy = s.errBusy := rfl
@[simp] theorem recordError_cmd_crc (s : State) : (recordError .cmd s).crc = s.crc := rfl
@[simp] theorem recordError_cmd_crcRx0 (s : State) : (recordError .cmd s).crcRx0 = s.crcRx0 := rfl
@[simp] theorem recordError_cmd_crcRx1 (s : State) : (recordError .cmd s).crcRx1 = s.crcRx1 := rfl
@[simp] theorem recordError_cmd_secret (s : State) : (recordError .cmd s).secret = s.secret := rfl
@[simp] theorem recordError_cmd_serial (s : State) : (recordError .cmd s).serial = s.serial := rfl
@[simp] theorem recordError_cmd_spad (s : State) : (recordError .cmd s).spad = s.spad := rfl
@[simp] theorem recordError_cmd_taddrLo (s : State) : (recordError .cmd s).taddrLo = s.taddrLo := rfl
@[simp] theorem recordError_cmd_taddrHi (s : State) : (recordError .cmd s).taddrHi = s.taddrHi := rfl
@[simp] theorem recordError_cmd_page (s : State) : (recordError .cmd s).page = s.page := rfl
@[simp] theorem recordError_cmd_msg (s : State) : (recordError .cmd s).msg = s.msg := rfl
@[simp] theorem recordError_cmd_macout (s : State) : (recordError .cmd s).macout = s.macout := rfl
@[simp] theorem recordError_cmd_hidden (s : State) : (recordError .cmd s).hidden = s.hidden := rfl
@[simp] theorem recordError_cmd_inputs (s : State) : (recordError .cmd s).inputs = s.inputs := rfl
@[simp] theorem recordError_cmd_rdata (s : State) : (recordError .cmd s).rdata = s.rdata := rfl
@[simp] theorem recordError_cmd_draws (s : State) : (recordError .cmd s).draws = s.draws := rfl

@[simp] theorem recordError_busy_build (s : State) : (recordError .busy s).build = s.build := rfl
@[simp] theorem recordError_busy_busy (s : State) : (recordError .busy s).busy = s.busy := rfl
@[simp] theorem recordError_busy_macValid (s : State) : (recordError .busy s).macValid = s.macValid := rfl
@[simp] theorem recordError_busy_crcChecked (s : State) : (recordError .busy s).crcChecked = s.crcChecked := rfl
@[simp] theorem recordError_busy_crcOk (s : State) : (recordError .busy s).crcOk = s.crcOk := rfl
@[simp] theorem recordError_busy_errCrc (s : State) : (recordError .busy s).errCrc = s.errCrc := rfl
@[simp] theorem recordError_busy_errCmd (s : State) : (recordError .busy s).errCmd = s.errCmd := rfl
@[simp] theorem recordError_busy_errBusy (s : State) : (recordError .busy s).errBusy = true := rfl
@[simp] theorem recordError_busy_crc (s : State) : (recordError .busy s).crc = s.crc := rfl
@[simp] theorem recordError_busy_crcRx0 (s : State) : (recordError .busy s).crcRx0 = s.crcRx0 := rfl
@[simp] theorem recordError_busy_crcRx1 (s : State) : (recordError .busy s).crcRx1 = s.crcRx1 := rfl
@[simp] theorem recordError_busy_secret (s : State) : (recordError .busy s).secret = s.secret := rfl
@[simp] theorem recordError_busy_serial (s : State) : (recordError .busy s).serial = s.serial := rfl
@[simp] theorem recordError_busy_spad (s : State) : (recordError .busy s).spad = s.spad := rfl
@[simp] theorem recordError_busy_taddrLo (s : State) : (recordError .busy s).taddrLo = s.taddrLo := rfl
@[simp] theorem recordError_busy_taddrHi (s : State) : (recordError .busy s).taddrHi = s.taddrHi := rfl
@[simp] theorem recordError_busy_page (s : State) : (recordError .busy s).page = s.page := rfl
@[simp] theorem recordError_busy_msg (s : State) : (recordError .busy s).msg = s.msg := rfl
@[simp] theorem recordError_busy_macout (s : State) : (recordError .busy s).macout = s.macout := rfl
@[simp] theorem recordError_busy_hidden (s : State) : (recordError .busy s).hidden = s.hidden := rfl
@[simp] theorem recordError_busy_inputs (s : State) : (recordError .busy s).inputs = s.inputs := rfl
@[simp] theorem recordError_busy_rdata (s : State) : (recordError .busy s).rdata = s.rdata := rfl
@[simp] theorem recordError_busy_draws (s : State) : (recordError .busy s).draws = s.draws := rfl

@[simp] theorem clearErrors_build (s : State) : (clearErrors s).build = s.build := rfl
@[simp] theorem clearErrors_busy (s : State) : (clearErrors s).busy = s.busy := rfl
@[simp] theorem clearErrors_macValid (s : State) : (clearErrors s).macValid = s.macValid := rfl
@[simp] theorem clearErrors_crcChecked (s : State) : (clearErrors s).crcChecked = s.crcChecked := rfl
@[simp] theorem clearErrors_crcOk (s : State) : (clearErrors s).crcOk = s.crcOk := rfl
@[simp] theorem clearErrors_errCrc (s : State) : (clearErrors s).errCrc = false := rfl
@[simp] theorem clearErrors_errCmd (s : State) : (clearErrors s).errCmd = false := rfl
@[simp] theorem clearErrors_errBusy (s : State) : (clearErrors s).errBusy = false := rfl
@[simp] theorem clearErrors_crc (s : State) : (clearErrors s).crc = s.crc := rfl
@[simp] theorem clearErrors_crcRx0 (s : State) : (clearErrors s).crcRx0 = s.crcRx0 := rfl
@[simp] theorem clearErrors_crcRx1 (s : State) : (clearErrors s).crcRx1 = s.crcRx1 := rfl
@[simp] theorem clearErrors_secret (s : State) : (clearErrors s).secret = s.secret := rfl
@[simp] theorem clearErrors_serial (s : State) : (clearErrors s).serial = s.serial := rfl
@[simp] theorem clearErrors_spad (s : State) : (clearErrors s).spad = s.spad := rfl
@[simp] theorem clearErrors_taddrLo (s : State) : (clearErrors s).taddrLo = s.taddrLo := rfl
@[simp] theorem clearErrors_taddrHi (s : State) : (clearErrors s).taddrHi = s.taddrHi := rfl
@[simp] theorem clearErrors_page (s : State) : (clearErrors s).page = s.page := rfl
@[simp] theorem clearErrors_msg (s : State) : (clearErrors s).msg = s.msg := rfl
@[simp] theorem clearErrors_macout (s : State) : (clearErrors s).macout = s.macout := rfl
@[simp] theorem clearErrors_hidden (s : State) : (clearErrors s).hidden = s.hidden := rfl
@[simp] theorem clearErrors_inputs (s : State) : (clearErrors s).inputs = s.inputs := rfl
@[simp] theorem clearErrors_rdata (s : State) : (clearErrors s).rdata = s.rdata := rfl
@[simp] theorem clearErrors_draws (s : State) : (clearErrors s).draws = s.draws := rfl

@[simp] theorem clearCheck_build (s : State) : (clearCheck s).build = s.build := rfl
@[simp] theorem clearCheck_busy (s : State) : (clearCheck s).busy = s.busy := rfl
@[simp] theorem clearCheck_macValid (s : State) : (clearCheck s).macValid = s.macValid := rfl
@[simp] theorem clearCheck_crcChecked (s : State) : (clearCheck s).crcChecked = false := rfl
@[simp] theorem clearCheck_crcOk (s : State) : (clearCheck s).crcOk = false := rfl
@[simp] theorem clearCheck_errCrc (s : State) : (clearCheck s).errCrc = s.errCrc := rfl
@[simp] theorem clearCheck_errCmd (s : State) : (clearCheck s).errCmd = s.errCmd := rfl
@[simp] theorem clearCheck_errBusy (s : State) : (clearCheck s).errBusy = s.errBusy := rfl
@[simp] theorem clearCheck_crc (s : State) : (clearCheck s).crc = s.crc := rfl
@[simp] theorem clearCheck_crcRx0 (s : State) : (clearCheck s).crcRx0 = s.crcRx0 := rfl
@[simp] theorem clearCheck_crcRx1 (s : State) : (clearCheck s).crcRx1 = s.crcRx1 := rfl
@[simp] theorem clearCheck_secret (s : State) : (clearCheck s).secret = s.secret := rfl
@[simp] theorem clearCheck_serial (s : State) : (clearCheck s).serial = s.serial := rfl
@[simp] theorem clearCheck_spad (s : State) : (clearCheck s).spad = s.spad := rfl
@[simp] theorem clearCheck_taddrLo (s : State) : (clearCheck s).taddrLo = s.taddrLo := rfl
@[simp] theorem clearCheck_taddrHi (s : State) : (clearCheck s).taddrHi = s.taddrHi := rfl
@[simp] theorem clearCheck_page (s : State) : (clearCheck s).page = s.page := rfl
@[simp] theorem clearCheck_msg (s : State) : (clearCheck s).msg = s.msg := rfl
@[simp] theorem clearCheck_macout (s : State) : (clearCheck s).macout = s.macout := rfl
@[simp] theorem clearCheck_hidden (s : State) : (clearCheck s).hidden = s.hidden := rfl
@[simp] theorem clearCheck_inputs (s : State) : (clearCheck s).inputs = s.inputs := rfl
@[simp] theorem clearCheck_rdata (s : State) : (clearCheck s).rdata = s.rdata := rfl
@[simp] theorem clearCheck_draws (s : State) : (clearCheck s).draws = s.draws := rfl

@[simp] theorem invalidateMac_build (s : State) : (invalidateMac s).build = s.build := rfl
@[simp] theorem invalidateMac_busy (s : State) : (invalidateMac s).busy = s.busy := rfl
@[simp] theorem invalidateMac_macValid (s : State) : (invalidateMac s).macValid = false := rfl
@[simp] theorem invalidateMac_crcChecked (s : State) : (invalidateMac s).crcChecked = s.crcChecked := rfl
@[simp] theorem invalidateMac_crcOk (s : State) : (invalidateMac s).crcOk = s.crcOk := rfl
@[simp] theorem invalidateMac_errCrc (s : State) : (invalidateMac s).errCrc = s.errCrc := rfl
@[simp] theorem invalidateMac_errCmd (s : State) : (invalidateMac s).errCmd = s.errCmd := rfl
@[simp] theorem invalidateMac_errBusy (s : State) : (invalidateMac s).errBusy = s.errBusy := rfl
@[simp] theorem invalidateMac_crc (s : State) : (invalidateMac s).crc = s.crc := rfl
@[simp] theorem invalidateMac_crcRx0 (s : State) : (invalidateMac s).crcRx0 = s.crcRx0 := rfl
@[simp] theorem invalidateMac_crcRx1 (s : State) : (invalidateMac s).crcRx1 = s.crcRx1 := rfl
@[simp] theorem invalidateMac_secret (s : State) : (invalidateMac s).secret = s.secret := rfl
@[simp] theorem invalidateMac_serial (s : State) : (invalidateMac s).serial = s.serial := rfl
@[simp] theorem invalidateMac_spad (s : State) : (invalidateMac s).spad = s.spad := rfl
@[simp] theorem invalidateMac_taddrLo (s : State) : (invalidateMac s).taddrLo = s.taddrLo := rfl
@[simp] theorem invalidateMac_taddrHi (s : State) : (invalidateMac s).taddrHi = s.taddrHi := rfl
@[simp] theorem invalidateMac_page (s : State) : (invalidateMac s).page = s.page := rfl
@[simp] theorem invalidateMac_msg (s : State) : (invalidateMac s).msg = s.msg := rfl
@[simp] theorem invalidateMac_macout (s : State) : (invalidateMac s).macout = s.macout := rfl
@[simp] theorem invalidateMac_hidden (s : State) : (invalidateMac s).hidden = s.hidden := rfl
@[simp] theorem invalidateMac_inputs (s : State) : (invalidateMac s).inputs = s.inputs := rfl
@[simp] theorem invalidateMac_rdata (s : State) : (invalidateMac s).rdata = s.rdata := rfl
@[simp] theorem invalidateMac_draws (s : State) : (invalidateMac s).draws = s.draws := rfl

@[simp] theorem startMac_build (s : State) : (startMac s).build = s.build := rfl
@[simp] theorem startMac_busy (s : State) : (startMac s).busy = true := rfl
@[simp] theorem startMac_macValid (s : State) : (startMac s).macValid = false := rfl
@[simp] theorem startMac_crcChecked (s : State) : (startMac s).crcChecked = s.crcChecked := rfl
@[simp] theorem startMac_crcOk (s : State) : (startMac s).crcOk = s.crcOk := rfl
@[simp] theorem startMac_errCrc (s : State) : (startMac s).errCrc = s.errCrc := rfl
@[simp] theorem startMac_errCmd (s : State) : (startMac s).errCmd = s.errCmd := rfl
@[simp] theorem startMac_errBusy (s : State) : (startMac s).errBusy = s.errBusy := rfl
@[simp] theorem startMac_crc (s : State) : (startMac s).crc = s.crc := rfl
@[simp] theorem startMac_crcRx0 (s : State) : (startMac s).crcRx0 = s.crcRx0 := rfl
@[simp] theorem startMac_crcRx1 (s : State) : (startMac s).crcRx1 = s.crcRx1 := rfl
@[simp] theorem startMac_secret (s : State) : (startMac s).secret = s.secret := rfl
@[simp] theorem startMac_serial (s : State) : (startMac s).serial = s.serial := rfl
@[simp] theorem startMac_spad (s : State) : (startMac s).spad = s.spad := rfl
@[simp] theorem startMac_taddrLo (s : State) : (startMac s).taddrLo = s.taddrLo := rfl
@[simp] theorem startMac_taddrHi (s : State) : (startMac s).taddrHi = s.taddrHi := rfl
@[simp] theorem startMac_page (s : State) : (startMac s).page = s.page := rfl
@[simp] theorem startMac_msg (s : State) : (startMac s).msg = s.msg := rfl
@[simp] theorem startMac_macout (s : State) : (startMac s).macout = s.macout := rfl
@[simp] theorem startMac_hidden (s : State) : (startMac s).hidden = s.hidden := rfl
@[simp] theorem startMac_inputs (s : State) : (startMac s).inputs = s.inputs := rfl
@[simp] theorem startMac_rdata (s : State) : (startMac s).rdata = s.rdata := rfl
@[simp] theorem startMac_draws (s : State) : (startMac s).draws = s.draws := rfl

@[simp] theorem finishMac_build (s : State) : (finishMac s).build = s.build := rfl
@[simp] theorem finishMac_busy (s : State) : (finishMac s).busy = false := rfl
@[simp] theorem finishMac_macValid (s : State) : (finishMac s).macValid = true := rfl
@[simp] theorem finishMac_crcChecked (s : State) : (finishMac s).crcChecked = s.crcChecked := rfl
@[simp] theorem finishMac_crcOk (s : State) : (finishMac s).crcOk = s.crcOk := rfl
@[simp] theorem finishMac_errCrc (s : State) : (finishMac s).errCrc = s.errCrc := rfl
@[simp] theorem finishMac_errCmd (s : State) : (finishMac s).errCmd = s.errCmd := rfl
@[simp] theorem finishMac_errBusy (s : State) : (finishMac s).errBusy = s.errBusy := rfl
@[simp] theorem finishMac_crc (s : State) : (finishMac s).crc = s.crc := rfl
@[simp] theorem finishMac_crcRx0 (s : State) : (finishMac s).crcRx0 = s.crcRx0 := rfl
@[simp] theorem finishMac_crcRx1 (s : State) : (finishMac s).crcRx1 = s.crcRx1 := rfl
@[simp] theorem finishMac_secret (s : State) : (finishMac s).secret = s.secret := rfl
@[simp] theorem finishMac_serial (s : State) : (finishMac s).serial = s.serial := rfl
@[simp] theorem finishMac_spad (s : State) : (finishMac s).spad = s.spad := rfl
@[simp] theorem finishMac_taddrLo (s : State) : (finishMac s).taddrLo = s.taddrLo := rfl
@[simp] theorem finishMac_taddrHi (s : State) : (finishMac s).taddrHi = s.taddrHi := rfl
@[simp] theorem finishMac_page (s : State) : (finishMac s).page = s.page := rfl
@[simp] theorem finishMac_msg (s : State) : (finishMac s).msg = s.msg := rfl
@[simp] theorem finishMac_macout (s : State) : (finishMac s).macout = s.macout := rfl
@[simp] theorem finishMac_hidden (s : State) : (finishMac s).hidden = s.hidden := rfl
@[simp] theorem finishMac_inputs (s : State) : (finishMac s).inputs = s.inputs := rfl
@[simp] theorem finishMac_rdata (s : State) : (finishMac s).rdata = s.rdata := rfl
@[simp] theorem finishMac_draws (s : State) : (finishMac s).draws = s.draws := rfl

@[simp] theorem storeMsg_build (s : State) (m : Vector Byte 64) : (storeMsg m s).build = s.build := rfl
@[simp] theorem storeMsg_busy (s : State) (m : Vector Byte 64) : (storeMsg m s).busy = s.busy := rfl
@[simp] theorem storeMsg_macValid (s : State) (m : Vector Byte 64) : (storeMsg m s).macValid = s.macValid := rfl
@[simp] theorem storeMsg_crcChecked (s : State) (m : Vector Byte 64) : (storeMsg m s).crcChecked = s.crcChecked := rfl
@[simp] theorem storeMsg_crcOk (s : State) (m : Vector Byte 64) : (storeMsg m s).crcOk = s.crcOk := rfl
@[simp] theorem storeMsg_errCrc (s : State) (m : Vector Byte 64) : (storeMsg m s).errCrc = s.errCrc := rfl
@[simp] theorem storeMsg_errCmd (s : State) (m : Vector Byte 64) : (storeMsg m s).errCmd = s.errCmd := rfl
@[simp] theorem storeMsg_errBusy (s : State) (m : Vector Byte 64) : (storeMsg m s).errBusy = s.errBusy := rfl
@[simp] theorem storeMsg_crc (s : State) (m : Vector Byte 64) : (storeMsg m s).crc = s.crc := rfl
@[simp] theorem storeMsg_crcRx0 (s : State) (m : Vector Byte 64) : (storeMsg m s).crcRx0 = s.crcRx0 := rfl
@[simp] theorem storeMsg_crcRx1 (s : State) (m : Vector Byte 64) : (storeMsg m s).crcRx1 = s.crcRx1 := rfl
@[simp] theorem storeMsg_secret (s : State) (m : Vector Byte 64) : (storeMsg m s).secret = s.secret := rfl
@[simp] theorem storeMsg_serial (s : State) (m : Vector Byte 64) : (storeMsg m s).serial = s.serial := rfl
@[simp] theorem storeMsg_spad (s : State) (m : Vector Byte 64) : (storeMsg m s).spad = s.spad := rfl
@[simp] theorem storeMsg_taddrLo (s : State) (m : Vector Byte 64) : (storeMsg m s).taddrLo = s.taddrLo := rfl
@[simp] theorem storeMsg_taddrHi (s : State) (m : Vector Byte 64) : (storeMsg m s).taddrHi = s.taddrHi := rfl
@[simp] theorem storeMsg_page (s : State) (m : Vector Byte 64) : (storeMsg m s).page = s.page := rfl
@[simp] theorem storeMsg_msg (s : State) (m : Vector Byte 64) : (storeMsg m s).msg = m := rfl
@[simp] theorem storeMsg_macout (s : State) (m : Vector Byte 64) : (storeMsg m s).macout = s.macout := rfl
@[simp] theorem storeMsg_hidden (s : State) (m : Vector Byte 64) : (storeMsg m s).hidden = s.hidden := rfl
@[simp] theorem storeMsg_inputs (s : State) (m : Vector Byte 64) : (storeMsg m s).inputs = s.inputs := rfl
@[simp] theorem storeMsg_rdata (s : State) (m : Vector Byte 64) : (storeMsg m s).rdata = s.rdata := rfl
@[simp] theorem storeMsg_draws (s : State) (m : Vector Byte 64) : (storeMsg m s).draws = s.draws := rfl

@[simp] theorem storeMac_build (s : State) (o : Vector Byte 20) (h : MacHidden) : (storeMac o h s).build = s.build := rfl
@[simp] theorem storeMac_busy (s : State) (o : Vector Byte 20) (h : MacHidden) : (storeMac o h s).busy = false := rfl
@[simp] theorem storeMac_macValid (s : State) (o : Vector Byte 20) (h : MacHidden) : (storeMac o h s).macValid = true := rfl
@[simp] theorem storeMac_crcChecked (s : State) (o : Vector Byte 20) (h : MacHidden) : (storeMac o h s).crcChecked = s.crcChecked := rfl
@[simp] theorem storeMac_crcOk (s : State) (o : Vector Byte 20) (h : MacHidden) : (storeMac o h s).crcOk = s.crcOk := rfl
@[simp] theorem storeMac_errCrc (s : State) (o : Vector Byte 20) (h : MacHidden) : (storeMac o h s).errCrc = s.errCrc := rfl
@[simp] theorem storeMac_errCmd (s : State) (o : Vector Byte 20) (h : MacHidden) : (storeMac o h s).errCmd = s.errCmd := rfl
@[simp] theorem storeMac_errBusy (s : State) (o : Vector Byte 20) (h : MacHidden) : (storeMac o h s).errBusy = s.errBusy := rfl
@[simp] theorem storeMac_crc (s : State) (o : Vector Byte 20) (h : MacHidden) : (storeMac o h s).crc = s.crc := rfl
@[simp] theorem storeMac_crcRx0 (s : State) (o : Vector Byte 20) (h : MacHidden) : (storeMac o h s).crcRx0 = s.crcRx0 := rfl
@[simp] theorem storeMac_crcRx1 (s : State) (o : Vector Byte 20) (h : MacHidden) : (storeMac o h s).crcRx1 = s.crcRx1 := rfl
@[simp] theorem storeMac_secret (s : State) (o : Vector Byte 20) (h : MacHidden) : (storeMac o h s).secret = s.secret := rfl
@[simp] theorem storeMac_serial (s : State) (o : Vector Byte 20) (h : MacHidden) : (storeMac o h s).serial = s.serial := rfl
@[simp] theorem storeMac_spad (s : State) (o : Vector Byte 20) (h : MacHidden) : (storeMac o h s).spad = s.spad := rfl
@[simp] theorem storeMac_taddrLo (s : State) (o : Vector Byte 20) (h : MacHidden) : (storeMac o h s).taddrLo = s.taddrLo := rfl
@[simp] theorem storeMac_taddrHi (s : State) (o : Vector Byte 20) (h : MacHidden) : (storeMac o h s).taddrHi = s.taddrHi := rfl
@[simp] theorem storeMac_page (s : State) (o : Vector Byte 20) (h : MacHidden) : (storeMac o h s).page = s.page := rfl
@[simp] theorem storeMac_msg (s : State) (o : Vector Byte 20) (h : MacHidden) : (storeMac o h s).msg = s.msg := rfl
@[simp] theorem storeMac_macout (s : State) (o : Vector Byte 20) (h : MacHidden) : (storeMac o h s).macout = o := rfl
@[simp] theorem storeMac_hidden (s : State) (o : Vector Byte 20) (h : MacHidden) : (storeMac o h s).hidden = h := rfl
@[simp] theorem storeMac_inputs (s : State) (o : Vector Byte 20) (h : MacHidden) : (storeMac o h s).inputs = s.inputs := rfl
@[simp] theorem storeMac_rdata (s : State) (o : Vector Byte 20) (h : MacHidden) : (storeMac o h s).rdata = s.rdata := rfl
@[simp] theorem storeMac_draws (s : State) (o : Vector Byte 20) (h : MacHidden) : (storeMac o h s).draws = s.draws := rfl

@[simp] theorem respond_build (s : State) (v : Byte) : (respond v s).build = s.build := rfl
@[simp] theorem respond_busy (s : State) (v : Byte) : (respond v s).busy = s.busy := rfl
@[simp] theorem respond_macValid (s : State) (v : Byte) : (respond v s).macValid = s.macValid := rfl
@[simp] theorem respond_crcChecked (s : State) (v : Byte) : (respond v s).crcChecked = s.crcChecked := rfl
@[simp] theorem respond_crcOk (s : State) (v : Byte) : (respond v s).crcOk = s.crcOk := rfl
@[simp] theorem respond_errCrc (s : State) (v : Byte) : (respond v s).errCrc = s.errCrc := rfl
@[simp] theorem respond_errCmd (s : State) (v : Byte) : (respond v s).errCmd = s.errCmd := rfl
@[simp] theorem respond_errBusy (s : State) (v : Byte) : (respond v s).errBusy = s.errBusy := rfl
@[simp] theorem respond_crc (s : State) (v : Byte) : (respond v s).crc = s.crc := rfl
@[simp] theorem respond_crcRx0 (s : State) (v : Byte) : (respond v s).crcRx0 = s.crcRx0 := rfl
@[simp] theorem respond_crcRx1 (s : State) (v : Byte) : (respond v s).crcRx1 = s.crcRx1 := rfl
@[simp] theorem respond_secret (s : State) (v : Byte) : (respond v s).secret = s.secret := rfl
@[simp] theorem respond_serial (s : State) (v : Byte) : (respond v s).serial = s.serial := rfl
@[simp] theorem respond_spad (s : State) (v : Byte) : (respond v s).spad = s.spad := rfl
@[simp] theorem respond_taddrLo (s : State) (v : Byte) : (respond v s).taddrLo = s.taddrLo := rfl
@[simp] theorem respond_taddrHi (s : State) (v : Byte) : (respond v s).taddrHi = s.taddrHi := rfl
@[simp] theorem respond_page (s : State) (v : Byte) : (respond v s).page = s.page := rfl
@[simp] theorem respond_msg (s : State) (v : Byte) : (respond v s).msg = s.msg := rfl
@[simp] theorem respond_macout (s : State) (v : Byte) : (respond v s).macout = s.macout := rfl
@[simp] theorem respond_hidden (s : State) (v : Byte) : (respond v s).hidden = s.hidden := rfl
@[simp] theorem respond_inputs (s : State) (v : Byte) : (respond v s).inputs = s.inputs := rfl
@[simp] theorem respond_rdata (s : State) (v : Byte) : (respond v s).rdata = some v := rfl
@[simp] theorem respond_draws (s : State) (v : Byte) : (respond v s).draws = s.draws := rfl

@[simp] theorem draw_build (s : State) : (draw s).build = s.build := rfl
@[simp] theorem draw_busy (s : State) : (draw s).busy = s.busy := rfl
@[simp] theorem draw_macValid (s : State) : (draw s).macValid = s.macValid := rfl
@[simp] theorem draw_crcChecked (s : State) : (draw s).crcChecked = s.crcChecked := rfl
@[simp] theorem draw_crcOk (s : State) : (draw s).crcOk = s.crcOk := rfl
@[simp] theorem draw_errCrc (s : State) : (draw s).errCrc = s.errCrc := rfl
@[simp] theorem draw_errCmd (s : State) : (draw s).errCmd = s.errCmd := rfl
@[simp] theorem draw_errBusy (s : State) : (draw s).errBusy = s.errBusy := rfl
@[simp] theorem draw_crc (s : State) : (draw s).crc = s.crc := rfl
@[simp] theorem draw_crcRx0 (s : State) : (draw s).crcRx0 = s.crcRx0 := rfl
@[simp] theorem draw_crcRx1 (s : State) : (draw s).crcRx1 = s.crcRx1 := rfl
@[simp] theorem draw_secret (s : State) : (draw s).secret = s.secret := rfl
@[simp] theorem draw_serial (s : State) : (draw s).serial = s.serial := rfl
@[simp] theorem draw_spad (s : State) : (draw s).spad = s.spad := rfl
@[simp] theorem draw_taddrLo (s : State) : (draw s).taddrLo = s.taddrLo := rfl
@[simp] theorem draw_taddrHi (s : State) : (draw s).taddrHi = s.taddrHi := rfl
@[simp] theorem draw_page (s : State) : (draw s).page = s.page := rfl
@[simp] theorem draw_msg (s : State) : (draw s).msg = s.msg := rfl
@[simp] theorem draw_macout (s : State) : (draw s).macout = s.macout := rfl
@[simp] theorem draw_hidden (s : State) : (draw s).hidden = s.hidden := rfl
@[simp] theorem draw_inputs (s : State) : (draw s).inputs = s.inputs := rfl
@[simp] theorem draw_rdata (s : State) : (draw s).rdata = s.rdata := rfl
@[simp] theorem draw_draws (s : State) : (draw s).draws = s.draws + 1 := rfl

@[simp] theorem setCrc_build (s : State) (c : Half) : (setCrc c s).build = s.build := rfl
@[simp] theorem setCrc_busy (s : State) (c : Half) : (setCrc c s).busy = s.busy := rfl
@[simp] theorem setCrc_macValid (s : State) (c : Half) : (setCrc c s).macValid = s.macValid := rfl
@[simp] theorem setCrc_crcChecked (s : State) (c : Half) : (setCrc c s).crcChecked = s.crcChecked := rfl
@[simp] theorem setCrc_crcOk (s : State) (c : Half) : (setCrc c s).crcOk = s.crcOk := rfl
@[simp] theorem setCrc_errCrc (s : State) (c : Half) : (setCrc c s).errCrc = s.errCrc := rfl
@[simp] theorem setCrc_errCmd (s : State) (c : Half) : (setCrc c s).errCmd = s.errCmd := rfl
@[simp] theorem setCrc_errBusy (s : State) (c : Half) : (setCrc c s).errBusy = s.errBusy := rfl
@[simp] theorem setCrc_crc (s : State) (c : Half) : (setCrc c s).crc = c := rfl
@[simp] theorem setCrc_crcRx0 (s : State) (c : Half) : (setCrc c s).crcRx0 = s.crcRx0 := rfl
@[simp] theorem setCrc_crcRx1 (s : State) (c : Half) : (setCrc c s).crcRx1 = s.crcRx1 := rfl
@[simp] theorem setCrc_secret (s : State) (c : Half) : (setCrc c s).secret = s.secret := rfl
@[simp] theorem setCrc_serial (s : State) (c : Half) : (setCrc c s).serial = s.serial := rfl
@[simp] theorem setCrc_spad (s : State) (c : Half) : (setCrc c s).spad = s.spad := rfl
@[simp] theorem setCrc_taddrLo (s : State) (c : Half) : (setCrc c s).taddrLo = s.taddrLo := rfl
@[simp] theorem setCrc_taddrHi (s : State) (c : Half) : (setCrc c s).taddrHi = s.taddrHi := rfl
@[simp] theorem setCrc_page (s : State) (c : Half) : (setCrc c s).page = s.page := rfl
@[simp] theorem setCrc_msg (s : State) (c : Half) : (setCrc c s).msg = s.msg := rfl
@[simp] theorem setCrc_macout (s : State) (c : Half) : (setCrc c s).macout = s.macout := rfl
@[simp] theorem setCrc_hidden (s : State) (c : Half) : (setCrc c s).hidden = s.hidden := rfl
@[simp] theorem setCrc_inputs (s : State) (c : Half) : (setCrc c s).inputs = s.inputs := rfl
@[simp] theorem setCrc_rdata (s : State) (c : Half) : (setCrc c s).rdata = s.rdata := rfl
@[simp] theorem setCrc_draws (s : State) (c : Half) : (setCrc c s).draws = s.draws := rfl

@[simp] theorem setInputs_build (s : State) (l : List Slot) : (setInputs l s).build = s.build := rfl
@[simp] theorem setInputs_busy (s : State) (l : List Slot) : (setInputs l s).busy = s.busy := rfl
@[simp] theorem setInputs_macValid (s : State) (l : List Slot) : (setInputs l s).macValid = s.macValid := rfl
@[simp] theorem setInputs_crcChecked (s : State) (l : List Slot) : (setInputs l s).crcChecked = s.crcChecked := rfl
@[simp] theorem setInputs_crcOk (s : State) (l : List Slot) : (setInputs l s).crcOk = s.crcOk := rfl
@[simp] theorem setInputs_errCrc (s : State) (l : List Slot) : (setInputs l s).errCrc = s.errCrc := rfl
@[simp] theorem setInputs_errCmd (s : State) (l : List Slot) : (setInputs l s).errCmd = s.errCmd := rfl
@[simp] theorem setInputs_errBusy (s : State) (l : List Slot) : (setInputs l s).errBusy = s.errBusy := rfl
@[simp] theorem setInputs_crc (s : State) (l : List Slot) : (setInputs l s).crc = s.crc := rfl
@[simp] theorem setInputs_crcRx0 (s : State) (l : List Slot) : (setInputs l s).crcRx0 = s.crcRx0 := rfl
@[simp] theorem setInputs_crcRx1 (s : State) (l : List Slot) : (setInputs l s).crcRx1 = s.crcRx1 := rfl
@[simp] theorem setInputs_secret (s : State) (l : List Slot) : (setInputs l s).secret = s.secret := rfl
@[simp] theorem setInputs_serial (s : State) (l : List Slot) : (setInputs l s).serial = s.serial := rfl
@[simp] theorem setInputs_spad (s : State) (l : List Slot) : (setInputs l s).spad = s.spad := rfl
@[simp] theorem setInputs_taddrLo (s : State) (l : List Slot) : (setInputs l s).taddrLo = s.taddrLo := rfl
@[simp] theorem setInputs_taddrHi (s : State) (l : List Slot) : (setInputs l s).taddrHi = s.taddrHi := rfl
@[simp] theorem setInputs_page (s : State) (l : List Slot) : (setInputs l s).page = s.page := rfl
@[simp] theorem setInputs_msg (s : State) (l : List Slot) : (setInputs l s).msg = s.msg := rfl
@[simp] theorem setInputs_macout (s : State) (l : List Slot) : (setInputs l s).macout = s.macout := rfl
@[simp] theorem setInputs_hidden (s : State) (l : List Slot) : (setInputs l s).hidden = s.hidden := rfl
@[simp] theorem setInputs_inputs (s : State) (l : List Slot) : (setInputs l s).inputs = l := rfl
@[simp] theorem setInputs_rdata (s : State) (l : List Slot) : (setInputs l s).rdata = s.rdata := rfl
@[simp] theorem setInputs_draws (s : State) (l : List Slot) : (setInputs l s).draws = s.draws := rfl

@[simp] theorem clearResponse_build (s : State) : (clearResponse s).build = s.build := rfl
@[simp] theorem clearResponse_busy (s : State) : (clearResponse s).busy = s.busy := rfl
@[simp] theorem clearResponse_macValid (s : State) : (clearResponse s).macValid = s.macValid := rfl
@[simp] theorem clearResponse_crcChecked (s : State) : (clearResponse s).crcChecked = s.crcChecked := rfl
@[simp] theorem clearResponse_crcOk (s : State) : (clearResponse s).crcOk = s.crcOk := rfl
@[simp] theorem clearResponse_errCrc (s : State) : (clearResponse s).errCrc = s.errCrc := rfl
@[simp] theorem clearResponse_errCmd (s : State) : (clearResponse s).errCmd = s.errCmd := rfl
@[simp] theorem clearResponse_errBusy (s : State) : (clearResponse s).errBusy = s.errBusy := rfl
@[simp] theorem clearResponse_crc (s : State) : (clearResponse s).crc = s.crc := rfl
@[simp] theorem clearResponse_crcRx0 (s : State) : (clearResponse s).crcRx0 = s.crcRx0 := rfl
@[simp] theorem clearResponse_crcRx1 (s : State) : (clearResponse s).crcRx1 = s.crcRx1 := rfl
@[simp] theorem clearResponse_secret (s : State) : (clearResponse s).secret = s.secret := rfl
@[simp] theorem clearResponse_serial (s : State) : (clearResponse s).serial = s.serial := rfl
@[simp] theorem clearResponse_spad (s : State) : (clearResponse s).spad = s.spad := rfl
@[simp] theorem clearResponse_taddrLo (s : State) : (clearResponse s).taddrLo = s.taddrLo := rfl
@[simp] theorem clearResponse_taddrHi (s : State) : (clearResponse s).taddrHi = s.taddrHi := rfl
@[simp] theorem clearResponse_page (s : State) : (clearResponse s).page = s.page := rfl
@[simp] theorem clearResponse_msg (s : State) : (clearResponse s).msg = s.msg := rfl
@[simp] theorem clearResponse_macout (s : State) : (clearResponse s).macout = s.macout := rfl
@[simp] theorem clearResponse_hidden (s : State) : (clearResponse s).hidden = s.hidden := rfl
@[simp] theorem clearResponse_inputs (s : State) : (clearResponse s).inputs = s.inputs := rfl
@[simp] theorem clearResponse_rdata (s : State) : (clearResponse s).rdata = none := rfl
@[simp] theorem clearResponse_draws (s : State) : (clearResponse s).draws = s.draws := rfl

@[simp] theorem setHidden_build (s : State) (h : MacHidden) : (setHidden h s).build = s.build := rfl
@[simp] theorem setHidden_busy (s : State) (h : MacHidden) : (setHidden h s).busy = s.busy := rfl
@[simp] theorem setHidden_macValid (s : State) (h : MacHidden) : (setHidden h s).macValid = s.macValid := rfl
@[simp] theorem setHidden_crcChecked (s : State) (h : MacHidden) : (setHidden h s).crcChecked = s.crcChecked := rfl
@[simp] theorem setHidden_crcOk (s : State) (h : MacHidden) : (setHidden h s).crcOk = s.crcOk := rfl
@[simp] theorem setHidden_errCrc (s : State) (h : MacHidden) : (setHidden h s).errCrc = s.errCrc := rfl
@[simp] theorem setHidden_errCmd (s : State) (h : MacHidden) : (setHidden h s).errCmd = s.errCmd := rfl
@[simp] theorem setHidden_errBusy (s : State) (h : MacHidden) : (setHidden h s).errBusy = s.errBusy := rfl
@[simp] theorem setHidden_crc (s : State) (h : MacHidden) : (setHidden h s).crc = s.crc := rfl
@[simp] theorem setHidden_crcRx0 (s : State) (h : MacHidden) : (setHidden h s).crcRx0 = s.crcRx0 := rfl
@[simp] theorem setHidden_crcRx1 (s : State) (h : MacHidden) : (setHidden h s).crcRx1 = s.crcRx1 := rfl
@[simp] theorem setHidden_secret (s : State) (h : MacHidden) : (setHidden h s).secret = s.secret := rfl
@[simp] theorem setHidden_serial (s : State) (h : MacHidden) : (setHidden h s).serial = s.serial := rfl
@[simp] theorem setHidden_spad (s : State) (h : MacHidden) : (setHidden h s).spad = s.spad := rfl
@[simp] theorem setHidden_taddrLo (s : State) (h : MacHidden) : (setHidden h s).taddrLo = s.taddrLo := rfl
@[simp] theorem setHidden_taddrHi (s : State) (h : MacHidden) : (setHidden h s).taddrHi = s.taddrHi := rfl
@[simp] theorem setHidden_page (s : State) (h : MacHidden) : (setHidden h s).page = s.page := rfl
@[simp] theorem setHidden_msg (s : State) (h : MacHidden) : (setHidden h s).msg = s.msg := rfl
@[simp] theorem setHidden_macout (s : State) (h : MacHidden) : (setHidden h s).macout = s.macout := rfl
@[simp] theorem setHidden_hidden (s : State) (h : MacHidden) : (setHidden h s).hidden = h := rfl
@[simp] theorem setHidden_inputs (s : State) (h : MacHidden) : (setHidden h s).inputs = s.inputs := rfl
@[simp] theorem setHidden_rdata (s : State) (h : MacHidden) : (setHidden h s).rdata = s.rdata := rfl
@[simp] theorem setHidden_draws (s : State) (h : MacHidden) : (setHidden h s).draws = s.draws := rfl

@[simp] theorem resetEvent_build (s : State) : (resetEvent s).build = s.build := rfl
@[simp] theorem resetEvent_busy (s : State) : (resetEvent s).busy = (powerOn s.build).busy := rfl
@[simp] theorem resetEvent_macValid (s : State) : (resetEvent s).macValid = (powerOn s.build).macValid := rfl
@[simp] theorem resetEvent_crcChecked (s : State) : (resetEvent s).crcChecked = (powerOn s.build).crcChecked := rfl
@[simp] theorem resetEvent_crcOk (s : State) : (resetEvent s).crcOk = (powerOn s.build).crcOk := rfl
@[simp] theorem resetEvent_errCrc (s : State) : (resetEvent s).errCrc = (powerOn s.build).errCrc := rfl
@[simp] theorem resetEvent_errCmd (s : State) : (resetEvent s).errCmd = (powerOn s.build).errCmd := rfl
@[simp] theorem resetEvent_errBusy (s : State) : (resetEvent s).errBusy = (powerOn s.build).errBusy := rfl
@[simp] theorem resetEvent_crc (s : State) : (resetEvent s).crc = (powerOn s.build).crc := rfl
@[simp] theorem resetEvent_crcRx0 (s : State) : (resetEvent s).crcRx0 = (powerOn s.build).crcRx0 := rfl
@[simp] theorem resetEvent_crcRx1 (s : State) : (resetEvent s).crcRx1 = (powerOn s.build).crcRx1 := rfl
@[simp] theorem resetEvent_secret (s : State) : (resetEvent s).secret = (powerOn s.build).secret := rfl
@[simp] theorem resetEvent_serial (s : State) : (resetEvent s).serial = (powerOn s.build).serial := rfl
@[simp] theorem resetEvent_spad (s : State) : (resetEvent s).spad = (powerOn s.build).spad := rfl
@[simp] theorem resetEvent_taddrLo (s : State) : (resetEvent s).taddrLo = (powerOn s.build).taddrLo := rfl
@[simp] theorem resetEvent_taddrHi (s : State) : (resetEvent s).taddrHi = (powerOn s.build).taddrHi := rfl
@[simp] theorem resetEvent_page (s : State) : (resetEvent s).page = (powerOn s.build).page := rfl
@[simp] theorem resetEvent_msg (s : State) : (resetEvent s).msg = (powerOn s.build).msg := rfl
@[simp] theorem resetEvent_macout (s : State) : (resetEvent s).macout = (powerOn s.build).macout := rfl
@[simp] theorem resetEvent_hidden (s : State) : (resetEvent s).hidden = Config.freeHidden s.draws := rfl
@[simp] theorem resetEvent_inputs (s : State) : (resetEvent s).inputs = s.inputs := rfl
@[simp] theorem resetEvent_rdata (s : State) : (resetEvent s).rdata = (powerOn s.build).rdata := rfl
@[simp] theorem resetEvent_draws (s : State) : (resetEvent s).draws = s.draws + 1 := rfl

@[simp] theorem assembleMsg_eq (s : State) : assembleMsg s = storeMsg (assembledMsg s) s := rfl
@[simp] theorem completeMac_eq (s : State) :
    completeMac s = storeMac (serializeMac (macf s.msg)) (finishedHidden s.msg) s := rfl

end Sys2Proof.Machine
end

