-- ==== Sys2Proof/Laws/Ops.lean ====
section
/-! SUPPORT. What the shared operations can do, said once each. -/

namespace Sys2Proof.Machine

/-- A MAC command is dropped with ERR_BUSY, or accepted (41_mac.md R144). -/
theorem unlessBusy_cases (f : State → State) (s : State) :
    (s.busy = true ∧ unlessBusy f s = recordError .busy s) ∨ (s.busy = false ∧ unlessBusy f s = f s) := by
  cases h : s.busy <;> simp [unlessBusy, h]

/-- The accumulator is set, or the build has none (40_crc16.md R103, R104). -/
theorem storeCrc_cases (c : Half) (s : State) :
    (s.build.crcPresent = true ∧ storeCrc c s = setCrc c s) ∨
    (s.build.crcPresent = false ∧ storeCrc c s = s) := by
  cases h : s.build.crcPresent <;> simp [storeCrc, h]

@[simp] theorem storeCrc_build (c : Half) (s : State) : (storeCrc c s).build = s.build := by
  rcases storeCrc_cases c s with h | h <;> rw [h.2]
  rfl
@[simp] theorem storeCrc_busy (c : Half) (s : State) : (storeCrc c s).busy = s.busy := by
  rcases storeCrc_cases c s with h | h <;> rw [h.2]
  rfl
@[simp] theorem storeCrc_macValid (c : Half) (s : State) : (storeCrc c s).macValid = s.macValid := by
  rcases storeCrc_cases c s with h | h <;> rw [h.2]
  rfl
@[simp] theorem storeCrc_crcChecked (c : Half) (s : State) : (storeCrc c s).crcChecked = s.crcChecked := by
  rcases storeCrc_cases c s with h | h <;> rw [h.2]
  rfl
@[simp] theorem storeCrc_crcOk (c : Half) (s : State) : (storeCrc c s).crcOk = s.crcOk := by
  rcases storeCrc_cases c s with h | h <;> rw [h.2]
  rfl
@[simp] theorem storeCrc_errCrc (c : Half) (s : State) : (storeCrc c s).errCrc = s.errCrc := by
  rcases storeCrc_cases c s with h | h <;> rw [h.2]
  rfl
@[simp] theorem storeCrc_errCmd (c : Half) (s : State) : (storeCrc c s).errCmd = s.errCmd := by
  rcases storeCrc_cases c s with h | h <;> rw [h.2]
  rfl
@[simp] theorem storeCrc_errBusy (c : Half) (s : State) : (storeCrc c s).errBusy = s.errBusy := by
  rcases storeCrc_cases c s with h | h <;> rw [h.2]
  rfl
@[simp] theorem storeCrc_crcRx0 (c : Half) (s : State) : (storeCrc c s).crcRx0 = s.crcRx0 := by
  rcases storeCrc_cases c s with h | h <;> rw [h.2]
  rfl
@[simp] theorem storeCrc_crcRx1 (c : Half) (s : State) : (storeCrc c s).crcRx1 = s.crcRx1 := by
  rcases storeCrc_cases c s with h | h <;> rw [h.2]
  rfl
@[simp] theorem storeCrc_secret (c : Half) (s : State) : (storeCrc c s).secret = s.secret := by
  rcases storeCrc_cases c s with h | h <;> rw [h.2]
  rfl
@[simp] theorem storeCrc_serial (c : Half) (s : State) : (storeCrc c s).serial = s.serial := by
  rcases storeCrc_cases c s with h | h <;> rw [h.2]
  rfl
@[simp] theorem storeCrc_spad (c : Half) (s : State) : (storeCrc c s).spad = s.spad := by
  rcases storeCrc_cases c s with h | h <;> rw [h.2]
  rfl
@[simp] theorem storeCrc_taddrLo (c : Half) (s : State) : (storeCrc c s).taddrLo = s.taddrLo := by
  rcases storeCrc_cases c s with h | h <;> rw [h.2]
  rfl
@[simp] theorem storeCrc_taddrHi (c : Half) (s : State) : (storeCrc c s).taddrHi = s.taddrHi := by
  rcases storeCrc_cases c s with h | h <;> rw [h.2]
  rfl
@[simp] theorem storeCrc_page (c : Half) (s : State) : (storeCrc c s).page = s.page := by
  rcases storeCrc_cases c s with h | h <;> rw [h.2]
  rfl
@[simp] theorem storeCrc_msg (c : Half) (s : State) : (storeCrc c s).msg = s.msg := by
  rcases storeCrc_cases c s with h | h <;> rw [h.2]
  rfl
@[simp] theorem storeCrc_macout (c : Half) (s : State) : (storeCrc c s).macout = s.macout := by
  rcases storeCrc_cases c s with h | h <;> rw [h.2]
  rfl
@[simp] theorem storeCrc_hidden (c : Half) (s : State) : (storeCrc c s).hidden = s.hidden := by
  rcases storeCrc_cases c s with h | h <;> rw [h.2]
  rfl
@[simp] theorem storeCrc_inputs (c : Half) (s : State) : (storeCrc c s).inputs = s.inputs := by
  rcases storeCrc_cases c s with h | h <;> rw [h.2]
  rfl
@[simp] theorem storeCrc_rdata (c : Half) (s : State) : (storeCrc c s).rdata = s.rdata := by
  rcases storeCrc_cases c s with h | h <;> rw [h.2]
  rfl
@[simp] theorem storeCrc_draws (c : Half) (s : State) : (storeCrc c s).draws = s.draws := by
  rcases storeCrc_cases c s with h | h <;> rw [h.2]
  rfl

/-- A CRC_CHECK passes, or fails and records ERR_CRC (40_crc16.md R106). -/
theorem recordCheck_cases (ok : Bool) (s : State) :
    (ok = true ∧ recordCheck ok s = { s with crcChecked := true, crcOk := true }) ∨
    (ok = false ∧ recordCheck ok s = { s with crcChecked := true, crcOk := false, errCrc := true }) := by
  cases ok
  · exact .inr ⟨rfl, rfl⟩
  · exact .inl ⟨rfl, rfl⟩

@[simp] theorem recordCheck_build (ok : Bool) (s : State) : (recordCheck ok s).build = s.build := by
  rcases recordCheck_cases ok s with h | h <;> rw [h.2]
@[simp] theorem recordCheck_busy (ok : Bool) (s : State) : (recordCheck ok s).busy = s.busy := by
  rcases recordCheck_cases ok s with h | h <;> rw [h.2]
@[simp] theorem recordCheck_macValid (ok : Bool) (s : State) : (recordCheck ok s).macValid = s.macValid := by
  rcases recordCheck_cases ok s with h | h <;> rw [h.2]
@[simp] theorem recordCheck_errCmd (ok : Bool) (s : State) : (recordCheck ok s).errCmd = s.errCmd := by
  rcases recordCheck_cases ok s with h | h <;> rw [h.2]
@[simp] theorem recordCheck_errBusy (ok : Bool) (s : State) : (recordCheck ok s).errBusy = s.errBusy := by
  rcases recordCheck_cases ok s with h | h <;> rw [h.2]
@[simp] theorem recordCheck_crc (ok : Bool) (s : State) : (recordCheck ok s).crc = s.crc := by
  rcases recordCheck_cases ok s with h | h <;> rw [h.2]
@[simp] theorem recordCheck_crcRx0 (ok : Bool) (s : State) : (recordCheck ok s).crcRx0 = s.crcRx0 := by
  rcases recordCheck_cases ok s with h | h <;> rw [h.2]
@[simp] theorem recordCheck_crcRx1 (ok : Bool) (s : State) : (recordCheck ok s).crcRx1 = s.crcRx1 := by
  rcases recordCheck_cases ok s with h | h <;> rw [h.2]
@[simp] theorem recordCheck_secret (ok : Bool) (s : State) : (recordCheck ok s).secret = s.secret := by
  rcases recordCheck_cases ok s with h | h <;> rw [h.2]
@[simp] theorem recordCheck_serial (ok : Bool) (s : State) : (recordCheck ok s).serial = s.serial := by
  rcases recordCheck_cases ok s with h | h <;> rw [h.2]
@[simp] theorem recordCheck_spad (ok : Bool) (s : State) : (recordCheck ok s).spad = s.spad := by
  rcases recordCheck_cases ok s with h | h <;> rw [h.2]
@[simp] theorem recordCheck_taddrLo (ok : Bool) (s : State) : (recordCheck ok s).taddrLo = s.taddrLo := by
  rcases recordCheck_cases ok s with h | h <;> rw [h.2]
@[simp] theorem recordCheck_taddrHi (ok : Bool) (s : State) : (recordCheck ok s).taddrHi = s.taddrHi := by
  rcases recordCheck_cases ok s with h | h <;> rw [h.2]
@[simp] theorem recordCheck_page (ok : Bool) (s : State) : (recordCheck ok s).page = s.page := by
  rcases recordCheck_cases ok s with h | h <;> rw [h.2]
@[simp] theorem recordCheck_msg (ok : Bool) (s : State) : (recordCheck ok s).msg = s.msg := by
  rcases recordCheck_cases ok s with h | h <;> rw [h.2]
@[simp] theorem recordCheck_macout (ok : Bool) (s : State) : (recordCheck ok s).macout = s.macout := by
  rcases recordCheck_cases ok s with h | h <;> rw [h.2]
@[simp] theorem recordCheck_hidden (ok : Bool) (s : State) : (recordCheck ok s).hidden = s.hidden := by
  rcases recordCheck_cases ok s with h | h <;> rw [h.2]
@[simp] theorem recordCheck_inputs (ok : Bool) (s : State) : (recordCheck ok s).inputs = s.inputs := by
  rcases recordCheck_cases ok s with h | h <;> rw [h.2]
@[simp] theorem recordCheck_rdata (ok : Bool) (s : State) : (recordCheck ok s).rdata = s.rdata := by
  rcases recordCheck_cases ok s with h | h <;> rw [h.2]
@[simp] theorem recordCheck_draws (ok : Bool) (s : State) : (recordCheck ok s).draws = s.draws := by
  rcases recordCheck_cases ok s with h | h <;> rw [h.2]

/-- A write changes at most the read/write registers (42_control.md R182). -/
theorem writeLoc_frame (s : State) (d : Byte) (l : Loc) :
    writeLoc s d l =
      { s with
        crcRx0 := (writeLoc s d l).crcRx0, crcRx1 := (writeLoc s d l).crcRx1
        secret := (writeLoc s d l).secret, serial := (writeLoc s d l).serial
        spad := (writeLoc s d l).spad, taddrLo := (writeLoc s d l).taddrLo
        taddrHi := (writeLoc s d l).taddrHi, page := (writeLoc s d l).page } := by
  cases l <;> rfl

/-- A write changes nothing where the address names no read/write register (20_memory.md R62). -/
theorem writeLoc_of_not_readWrite (s : State) (d : Byte) (l : Loc) (h : accessOf l ≠ .readWrite) :
    writeLoc s d l = s := by
  cases l <;> first | rfl | exact absurd rfl h

@[simp] theorem writeByte_build (s : State) (a : Addr) (d : Byte) : (writeByte s a d).build = s.build := by
  rw [writeByte, writeLoc_frame]
@[simp] theorem writeByte_busy (s : State) (a : Addr) (d : Byte) : (writeByte s a d).busy = s.busy := by
  rw [writeByte, writeLoc_frame]
@[simp] theorem writeByte_macValid (s : State) (a : Addr) (d : Byte) :
    (writeByte s a d).macValid = s.macValid := by
  rw [writeByte, writeLoc_frame]
@[simp] theorem writeByte_crcChecked (s : State) (a : Addr) (d : Byte) :
    (writeByte s a d).crcChecked = s.crcChecked := by
  rw [writeByte, writeLoc_frame]
@[simp] theorem writeByte_crcOk (s : State) (a : Addr) (d : Byte) : (writeByte s a d).crcOk = s.crcOk := by
  rw [writeByte, writeLoc_frame]
@[simp] theorem writeByte_errCrc (s : State) (a : Addr) (d : Byte) : (writeByte s a d).errCrc = s.errCrc := by
  rw [writeByte, writeLoc_frame]
@[simp] theorem writeByte_errCmd (s : State) (a : Addr) (d : Byte) : (writeByte s a d).errCmd = s.errCmd := by
  rw [writeByte, writeLoc_frame]
@[simp] theorem writeByte_errBusy (s : State) (a : Addr) (d : Byte) :
    (writeByte s a d).errBusy = s.errBusy := by
  rw [writeByte, writeLoc_frame]
@[simp] theorem writeByte_crc (s : State) (a : Addr) (d : Byte) : (writeByte s a d).crc = s.crc := by
  rw [writeByte, writeLoc_frame]
@[simp] theorem writeByte_msg (s : State) (a : Addr) (d : Byte) : (writeByte s a d).msg = s.msg := by
  rw [writeByte, writeLoc_frame]
@[simp] theorem writeByte_macout (s : State) (a : Addr) (d : Byte) : (writeByte s a d).macout = s.macout := by
  rw [writeByte, writeLoc_frame]
@[simp] theorem writeByte_hidden (s : State) (a : Addr) (d : Byte) : (writeByte s a d).hidden = s.hidden := by
  rw [writeByte, writeLoc_frame]
@[simp] theorem writeByte_inputs (s : State) (a : Addr) (d : Byte) : (writeByte s a d).inputs = s.inputs := by
  rw [writeByte, writeLoc_frame]
@[simp] theorem writeByte_rdata (s : State) (a : Addr) (d : Byte) : (writeByte s a d).rdata = s.rdata := by
  rw [writeByte, writeLoc_frame]
@[simp] theorem writeByte_draws (s : State) (a : Addr) (d : Byte) : (writeByte s a d).draws = s.draws := by
  rw [writeByte, writeLoc_frame]

/-- A read is free only of a MACOUT byte while BUSY = 1 (20_memory.md R64). -/
theorem readIsFree_eq (s : State) (a : Addr) :
    readIsFree s a = (s.busy && match locate a with | .macout _ => true | _ => false) := by
  unfold readIsFree
  cases locate a <;> simp

end Sys2Proof.Machine
end

