-- ==== Sys2Proof/Laws/PerInstr.lean ====
section
/-! SUPPORT. Families of lemmas with one lemma per instruction. WriteEnable: WE is 1 in the word of every transaction but
a read (30_encoding.md R80, R83). -/

namespace Sys2Proof.Laws.WriteEnable

/-- The canonical word has WE = 0 exactly for RD. -/
def Statement (i : Instr) : Prop := BusWord.we (encode i) = true ↔ ∀ a, i ≠ .rd a

theorem nop : Statement .nop := by simp [Statement, encode]
theorem crcInit : Statement .crcInit := by simp [Statement, encode]
theorem crcCheck : Statement .crcCheck := by simp [Statement, encode]
theorem clrErr : Statement .clrErr := by simp [Statement, encode]
theorem macAssemble : Statement .macAssemble := by simp [Statement, encode]
theorem macRun : Statement .macRun := by simp [Statement, encode]
theorem macGen : Statement .macGen := by simp [Statement, encode]
theorem cmdUndef (code : Byte) : Statement (.cmdUndef code) := by simp [Statement, encode]
theorem crcFeed (d : Byte) : Statement (.crcFeed d) := by simp [Statement, encode]
theorem wr (a : Addr) (d : Byte) : Statement (.wr a d) := by simp [Statement, encode]
theorem rd (a : Addr) : Statement (.rd a) := by simp [Statement, encode]

end Sys2Proof.Laws.WriteEnable
end

