-- ==== Sys2Proof/Laws/Step.lean ====
section
/-! SUPPORT. What an instruction and a step can do, said once: exec by instruction, its inversion, and the cases of a
step. -/

namespace Sys2Proof.Machine

@[simp] theorem exec_nop (s : State) : exec .nop s = .next s := rfl
@[simp] theorem exec_crcInit (s : State) :
    exec .crcInit s = .next (clearCheck (storeCrc 0x0000 s)) := rfl
@[simp] theorem exec_crcCheck (s : State) : exec .crcCheck s = .next (recordCheck (checkPasses s) s) := rfl
@[simp] theorem exec_clrErr (s : State) : exec .clrErr s = .next (clearErrors s) := rfl
@[simp] theorem exec_macAssemble (s : State) :
    exec .macAssemble s = .next (unlessBusy (fun t => invalidateMac (assembleMsg t)) s) := rfl
@[simp] theorem exec_macRun (s : State) : exec .macRun s = .next (unlessBusy startMac s) := rfl
@[simp] theorem exec_macGen (s : State) :
    exec .macGen s = .next (unlessBusy (fun t => startMac (assembleMsg t)) s) := rfl
@[simp] theorem exec_cmdUndef (c : Byte) (s : State) : exec (.cmdUndef c) s = .next (recordError .cmd s) := rfl
@[simp] theorem exec_crcFeed (d : Byte) (s : State) :
    exec (.crcFeed d) s = .next (storeCrc (crcStepOf s.build s.crc d) s) := rfl
@[simp] theorem exec_wr (a : Addr) (d : Byte) (s : State) : exec (.wr a d) s = .next (writeByte s a d) := rfl
@[simp] theorem exec_rd (a : Addr) (s : State) :
    exec (.rd a) s = .next (respond (readByte s a) (if readIsFree s a then draw s else s)) := rfl

/-- Everything an instruction that answers a next state can have done. -/
theorem exec_cases {i : Instr} {s t : State} (h : exec i s = .next t) :
    (i = .nop ∧ t = s) ∨
    (i = .crcInit ∧ t = clearCheck (storeCrc 0x0000 s)) ∨
    (i = .crcCheck ∧ t = recordCheck (checkPasses s) s) ∨
    (i = .clrErr ∧ t = clearErrors s) ∨
    (i = .macAssemble ∧ t = unlessBusy (fun u => invalidateMac (assembleMsg u)) s) ∨
    (i = .macRun ∧ t = unlessBusy startMac s) ∨
    (i = .macGen ∧ t = unlessBusy (fun u => startMac (assembleMsg u)) s) ∨
    (∃ c, i = .cmdUndef c ∧ t = recordError .cmd s) ∨
    (∃ d, i = .crcFeed d ∧ t = storeCrc (crcStepOf s.build s.crc d) s) ∨
    (∃ a d, i = .wr a d ∧ t = writeByte s a d) ∨
    (∃ a, i = .rd a ∧ t = respond (readByte s a) (if readIsFree s a then draw s else s)) := by
  cases i <;> simp only [exec_nop, exec_crcInit, exec_crcCheck, exec_clrErr, exec_macAssemble, exec_macRun,
    exec_macGen, exec_cmdUndef, exec_crcFeed, exec_wr, exec_rd, Host.Outcome.next.injEq] at h <;> subst h <;> simp

/-- While BUSY = 1 only the hidden state and the count of draws change (10_state.md R36). -/
theorem churnHidden_cases (s : State) :
    (s.busy = true ∧ churnHidden s = { s with hidden := Config.freeHidden s.draws, draws := s.draws + 1 }) ∨
    (s.busy = false ∧ churnHidden s = s) := by
  cases h : s.busy <;> simp [churnHidden, draw, setHidden, h]

@[simp] theorem churnHidden_build (s : State) : (churnHidden s).build = s.build := by
  rcases churnHidden_cases s with h | h <;> rw [h.2]
@[simp] theorem churnHidden_busy (s : State) : (churnHidden s).busy = s.busy := by
  rcases churnHidden_cases s with h | h <;> rw [h.2]
@[simp] theorem churnHidden_macValid (s : State) : (churnHidden s).macValid = s.macValid := by
  rcases churnHidden_cases s with h | h <;> rw [h.2]
@[simp] theorem churnHidden_crcChecked (s : State) : (churnHidden s).crcChecked = s.crcChecked := by
  rcases churnHidden_cases s with h | h <;> rw [h.2]
@[simp] theorem churnHidden_crcOk (s : State) : (churnHidden s).crcOk = s.crcOk := by
  rcases churnHidden_cases s with h | h <;> rw [h.2]
@[simp] theorem churnHidden_errCrc (s : State) : (churnHidden s).errCrc = s.errCrc := by
  rcases churnHidden_cases s with h | h <;> rw [h.2]
@[simp] theorem churnHidden_errCmd (s : State) : (churnHidden s).errCmd = s.errCmd := by
  rcases churnHidden_cases s with h | h <;> rw [h.2]
@[simp] theorem churnHidden_errBusy (s : State) : (churnHidden s).errBusy = s.errBusy := by
  rcases churnHidden_cases s with h | h <;> rw [h.2]
@[simp] theorem churnHidden_crc (s : State) : (churnHidden s).crc = s.crc := by
  rcases churnHidden_cases s with h | h <;> rw [h.2]
@[simp] theorem churnHidden_crcRx0 (s : State) : (churnHidden s).crcRx0 = s.crcRx0 := by
  rcases churnHidden_cases s with h | h <;> rw [h.2]
@[simp] theorem churnHidden_crcRx1 (s : State) : (churnHidden s).crcRx1 = s.crcRx1 := by
  rcases churnHidden_cases s with h | h <;> rw [h.2]
@[simp] theorem churnHidden_secret (s : State) : (churnHidden s).secret = s.secret := by
  rcases churnHidden_cases s with h | h <;> rw [h.2]
@[simp] theorem churnHidden_serial (s : State) : (churnHidden s).serial = s.serial := by
  rcases churnHidden_cases s with h | h <;> rw [h.2]
@[simp] theorem churnHidden_spad (s : State) : (churnHidden s).spad = s.spad := by
  rcases churnHidden_cases s with h | h <;> rw [h.2]
@[simp] theorem churnHidden_taddrLo (s : State) : (churnHidden s).taddrLo = s.taddrLo := by
  rcases churnHidden_cases s with h | h <;> rw [h.2]
@[simp] theorem churnHidden_taddrHi (s : State) : (churnHidden s).taddrHi = s.taddrHi := by
  rcases churnHidden_cases s with h | h <;> rw [h.2]
@[simp] theorem churnHidden_page (s : State) : (churnHidden s).page = s.page := by
  rcases churnHidden_cases s with h | h <;> rw [h.2]
@[simp] theorem churnHidden_msg (s : State) : (churnHidden s).msg = s.msg := by
  rcases churnHidden_cases s with h | h <;> rw [h.2]
@[simp] theorem churnHidden_macout (s : State) : (churnHidden s).macout = s.macout := by
  rcases churnHidden_cases s with h | h <;> rw [h.2]
@[simp] theorem churnHidden_inputs (s : State) : (churnHidden s).inputs = s.inputs := by
  rcases churnHidden_cases s with h | h <;> rw [h.2]
@[simp] theorem churnHidden_rdata (s : State) : (churnHidden s).rdata = s.rdata := by
  rcases churnHidden_cases s with h | h <;> rw [h.2]

/-- The MAC agent's turn is MAC completion, or nothing (41_mac.md R143). -/
theorem macTurn_cases (s : State) :
    (s.busy = true ∧
      macTurn s = storeMac (serializeMac (macf s.msg)) (finishedHidden s.msg) s) ∨
    (s.busy = false ∧ macTurn s = s) := by
  cases h : s.busy
  · exact .inr ⟨rfl, by rw [macTurn, h]; rfl⟩
  · exact .inl ⟨rfl, by rw [macTurn, h, if_pos rfl, completeMac_eq]⟩

theorem step_nil {s : State} (h : s.inputs = []) : step s = .next (macTurn s) := by
  simp [step, nextStep, h]

theorem step_reset {s : State} {turn : Turn} {rest : List Slot} (h : s.inputs = ⟨true, turn⟩ :: rest) :
    step s = .next (resetEvent (setInputs rest s)) := by
  simp [step, nextStep, runSlot, h]

theorem step_mac {s : State} {rest : List Slot} (h : s.inputs = ⟨false, .mac⟩ :: rest) :
    step s = .next (macTurn (setInputs rest s)) := by
  simp [step, nextStep, runSlot, h]

theorem step_host {s : State} {w : BusWord} {rest : List Slot} (h : s.inputs = ⟨false, .host w⟩ :: rest) :
    step s = hostTurn w (setInputs rest s) := by
  simp [step, nextStep, runSlot, h]

/-- A host turn that answers a next state ran the decoded instruction. -/
theorem hostTurn_cases {w : BusWord} {s t : State} (h : hostTurn w s = .next t) :
    ∃ u, exec (decode w) (clearResponse s) = .next u ∧ t = churnHidden u := by
  unfold hostTurn at h
  split at h
  · rename_i u hu
    exact ⟨u, hu, by simpa using h.symm⟩
  · cases h
  · cases h

/-- Everything a step that answers a next state can have been: the MAC agent's turn once the
inputs are used up, the reset event, the MAC agent's turn, or a host transaction. -/
theorem step_cases {s t : State} (h : step s = .next t) :
    (s.inputs = [] ∧ t = macTurn s) ∨
    (∃ turn rest, s.inputs = ⟨true, turn⟩ :: rest ∧ t = resetEvent (setInputs rest s)) ∨
    (∃ rest, s.inputs = ⟨false, .mac⟩ :: rest ∧ t = macTurn (setInputs rest s)) ∨
    (∃ w rest u, s.inputs = ⟨false, .host w⟩ :: rest ∧
      exec (decode w) (clearResponse (setInputs rest s)) = .next u ∧ t = churnHidden u) := by
  rcases hi : s.inputs with _ | ⟨⟨r, turn⟩, rest⟩
  · rw [step_nil hi] at h
    exact .inl ⟨rfl, by simpa using h.symm⟩
  · cases r with
    | true =>
      rw [step_reset hi] at h
      exact .inr (.inl ⟨turn, rest, rfl, by simpa using h.symm⟩)
    | false =>
      cases turn with
      | mac =>
        rw [step_mac hi] at h
        exact .inr (.inr (.inl ⟨rest, rfl, by simpa using h.symm⟩))
      | host w =>
        rw [step_host hi] at h
        obtain ⟨u, hu, ht⟩ := hostTurn_cases h
        exact .inr (.inr (.inr ⟨w, rest, u, rfl, hu, ht⟩))

end Sys2Proof.Machine
end

