-- ==== Sys2Proof/Laws/Units.lean ====
section
/-! SUPPORT. Small lemmas of the CRC and SHA-1 functions. -/

namespace Sys2Proof.Machine

/-- In a build with no table CRC_STEP is the default (00_scope.md R7). -/
theorem crcStepOf_default {b : Config.Build} (h : b.crcStepTable = []) (c : Half) (v : Byte) :
    crcStepOf b c v = crcStepDefault c v := by
  simp [crcStepOf, h]

theorem crcFold_append (b : Config.Build) (c : Half) (xs ys : List Byte) :
    crcFold b c (xs ++ ys) = crcFold b (crcFold b c xs) ys := by
  simp [crcFold]

@[simp] theorem scheduleUpTo_length (m : Vector Byte 64) (n : Nat) : (scheduleUpTo m n).length = 16 + n := by
  induction n with
  | zero => simp [scheduleUpTo]
  | succ n ih => simp [scheduleUpTo, ih]; omega

@[simp] theorem schedule_length (m : Vector Byte 64) : (schedule m).length = 80 := by
  simp [schedule]

theorem shaRounds_append (xs ys : List Word) (t : Nat) (x : Work) :
    shaRounds (xs ++ ys) t x = shaRounds ys (t + xs.length) (shaRounds xs t x) := by
  induction xs generalizing t x with
  | nil => simp [shaRounds]
  | cons w ws ih => simp [shaRounds, ih]; congr 1; omega

end Sys2Proof.Machine
end

