-- ==== Sys2Proof/Tests/Slice0.lean ====
section
/-! SUPPORT. The model's own tests. Expected values are those of spec/95_test_vectors.md (vector names C, K, V, B) or of
the rule named. Witness theorems show that the hypotheses of a statement can be met together, at boundary values. -/

namespace Sys2Proof.Tests

open Sys2Proof.Machine

-- WellFormed: an ill-formed term for each check (R82, R85).

theorem test_wf_refuses_defined_code_as_undefined : (Instr.cmdUndef 0x12).wf = false := by decide
theorem test_wf_refuses_every_defined_code : ∀ c ∈ definedCodes, (Instr.cmdUndef c).wf = false := by decide
theorem test_wf_refuses_wr_to_cmd : (Instr.wr 0x00 0x01).wf = false := by decide
theorem test_wf_refuses_wr_to_crc_din : (Instr.wr 0x04 0x01).wf = false := by decide
theorem test_wf_accepts_neighbours :
    (Instr.wr 0x01 0x00).wf && (Instr.wr 0x05 0x00).wf && (Instr.cmdUndef 0x04).wf
      && (Instr.cmdUndef 0x13).wf && (Instr.cmdUndef 0xFF).wf = true := by decide

-- Decode: words written out from R80 and R83, as WE ADDR DATA bits.

theorem test_decode_nop : decode 0b1_00000000_00000000#17 = .nop := by decide
theorem test_decode_crcInit : decode 0b1_00000000_00000001#17 = .crcInit := by decide
theorem test_decode_crcCheck : decode 0b1_00000000_00000010#17 = .crcCheck := by decide
theorem test_decode_clrErr : decode 0b1_00000000_00000011#17 = .clrErr := by decide
theorem test_decode_macAssemble : decode 0b1_00000000_00010000#17 = .macAssemble := by decide
theorem test_decode_macRun : decode 0b1_00000000_00010001#17 = .macRun := by decide
theorem test_decode_macGen : decode 0b1_00000000_00010010#17 = .macGen := by decide
/-- Vector K6's word 0x10020. -/
theorem test_decode_cmdUndef : decode 0b1_00000000_00100000#17 = .cmdUndef 0x20 := by decide
/-- Program P1's word 0x1040F. -/
theorem test_decode_crcFeed : decode 0b1_00000100_00001111#17 = .crcFeed 0x0F := by decide
/-- R182's example word 0x110AA. -/
theorem test_decode_wr : decode 0b1_00010000_10101010#17 = .wr 0x10 0xAA := by decide
/-- Vector K12: DATA of a read is ignored, word 0x00155. -/
theorem test_decode_rd : decode 0b0_00000001_01010101#17 = .rd 0x01 := by decide
theorem test_decode_wr_neighbours_of_crc_din :
    decode 0x103FF = .wr 0x03 0xFF ∧ decode 0x10500 = .wr 0x05 0x00 := by decide
theorem test_decode_undefined_boundaries :
    decode 0x10004 = .cmdUndef 0x04 ∧ decode 0x1000F = .cmdUndef 0x0F ∧ decode 0x10013 = .cmdUndef 0x13
      ∧ decode 0x100FF = .cmdUndef 0xFF := by decide

theorem test_encode_words :
    encode .macGen = 0x10012 ∧ encode (.crcFeed 0x0F) = 0x1040F ∧ encode (.wr 0x18 0x33) = 0x11833
      ∧ encode (.rd 0xD3) = 0x0D300 ∧ encode (.cmdUndef 0x20) = 0x10020 := by decide
theorem test_table_word : decodeTableWord 24 0x12001 = some (.wr 0x20 0x01) := by decide
theorem test_wider_word_is_refused_by_name :
    decodeTableWord 24 0x20000 = none ∧ (decodeNat 0x20000).toOption = none := by decide

-- Steps: one host transaction `w` from a state.

/-- The state after the host presents `w`. -/
def after (w : Nat) (s : State) : Option State :=
  match step (s.withFetchWord 24 w) with
  | .next t => some t
  | .fault _ => none
  | .refused _ => none

/-- STATUS after the host presents `w`. -/
def statusAfter (w : Nat) (s : State) : Option Byte := (after w s).map statusByte

/-- The byte that the host's read `w` returns. -/
def readBy (w : Nat) (s : State) : Option Byte := (after w s).bind State.rdata

/-- Right after an accepted MAC_GEN from reset (vector B1). -/
def busyState : State := { State.reset with busy := true, msg := assembledMsg State.reset }

/-- Vector C6 fed, with a received checksum. -/
def fedState (r0 r1 : Byte) : State := { State.reset with crc := 0xD0C0, crcRx0 := r0, crcRx1 := r1 }

/-- The default build without the CRC unit. -/
def noCrcState : State := powerOn { defaultBuild with crcPresent := false }

/-- The inputs of vector V2. -/
def v2State : State := { State.reset with
  spad := #v[1, 2, 3, 4, 5, 6, 7, 8], serial := #v[0x33, 0xA1, 0xB2, 0xC3, 0xD4, 0xE5, 0xF6, 0x07] }

/-- Vector K1. -/
theorem test_rd_status_at_reset : readBy 0x00100 State.reset = some 0x80 := by decide
/-- Vectors K2 and K10: write-only addresses read 0x00. -/
theorem test_rd_write_only : readBy 0x00000 busyState = some 0x00 ∧ readBy 0x00400 (fedState 1 2) = some 0x00 := by
  decide
/-- Vector K3. -/
theorem test_wr_secret : (after 0x110AA State.reset).map (fun t => t.secret[0]) = some 0xAA := by decide
/-- Vectors K4 and K5: a read-only and a reserved address ignore the write. -/
theorem test_wr_ignored : after 0x18055 State.reset = some State.reset ∧ after 0x10712 State.reset = some State.reset := by
  decide
/-- Vector K6. -/
theorem test_cmdUndef_sets_errCmd : statusAfter 0x10020 State.reset = some 0xA0 := by decide
/-- Vector B4: ERR_CMD and not ERR_BUSY while BUSY = 1. -/
theorem test_cmdUndef_while_busy : statusAfter 0x10013 busyState = some 0xA1 := by decide
/-- R181's example. -/
theorem test_clrErr : statusAfter 0x10003
    { State.reset with errBusy := true, errCmd := true, errCrc := true, crcChecked := true } = some 0x84 := by decide
/-- Vector K8. -/
theorem test_nop : after 0x10000 State.reset = some State.reset := by decide
/-- Vectors K9 (R103's example) and B5: fed, while BUSY = 1 too. -/
theorem test_crcFeed :
    (after 0x10401 State.reset).map State.crc = some 0xC0C1
      ∧ (after 0x10401 busyState).map (fun t => (statusByte t, t.crc)) = some (0x81, 0xC0C1) := by decide
/-- A build without the CRC unit does not feed (R103). -/
theorem test_crcFeed_without_crc : after 0x10401 noCrcState = some noCrcState := by decide
/-- R104's example, from a passed check. -/
theorem test_crcInit : (after 0x10001 { fedState 0x3F 0x2F with crcChecked := true, crcOk := true }).map
    (fun t => (t.crc, statusByte t)) = some (0x0000, 0x80) := by decide
/-- Vector C13, and the build without the CRC unit (section 2.3), which passes every check. -/
theorem test_crcCheck_passes :
    statusAfter 0x10002 (fedState 0x3F 0x2F) = some 0x8C ∧ statusAfter 0x10002 noCrcState = some 0x0C := by decide
/-- Vectors C14 and C15: swapped, and not complemented; C17: ERR_CRC stays set through a check that passes. -/
theorem test_crcCheck_fails :
    statusAfter 0x10002 (fedState 0x2F 0x3F) = some 0x94 ∧ statusAfter 0x10002 (fedState 0xC0 0xD0) = some 0x94
      ∧ statusAfter 0x10002 { fedState 0x3F 0x2F with errCrc := true } = some 0x9C := by decide
/-- Vectors K11 (TADDR 0xFFE0 gives the page-number byte 0x07) and B7 (MAC_VALID is cleared, MACOUT kept). -/
theorem test_macAssemble_page_number_and_macout :
    (after 0x10010 { State.reset with
      taddrLo := 0xE0, taddrHi := 0xFF, macValid := true, macout := Vector.replicate 20 0x5A }).map
      (fun t => (t.msg[40], statusByte t, t.macout)) = some (0x07, 0x80, Vector.replicate 20 0x5A) := by decide
/-- Vector V9: every field of the message distinct. -/
theorem test_macAssemble_layout :
    (after 0x10010 { State.reset with
      secret := #v[1, 2, 3, 4, 5, 6, 7, 8], page := Vector.ofFn fun i => BitVec.ofNat 8 i.val
      spad := #v[0xF0, 0xF1, 0xF2, 0xF3, 0xF4, 0xF5, 0xF6, 0xF7], taddrLo := 0x48
      serial := #v[0x33, 0xA1, 0xB2, 0xC3, 0xD4, 0xE5, 0xF6, 0x07] }).map (fun t => t.msg.toList)
    = some [0x01, 0x02, 0x03, 0x04, 0x00, 0x01, 0x02, 0x03, 0x04, 0x05, 0x06, 0x07, 0x08, 0x09, 0x0A, 0x0B, 0x0C,
        0x0D, 0x0E, 0x0F, 0x10, 0x11, 0x12, 0x13, 0x14, 0x15, 0x16, 0x17, 0x18, 0x19, 0x1A, 0x1B, 0xF0, 0xF1, 0xF2,
        0xF3, 0xF4, 0xF5, 0xF6, 0xF7, 0x02, 0x33, 0xA1, 0xB2, 0xC3, 0xD4, 0xE5, 0xF6, 0x05, 0x06, 0x07, 0x08, 0xFF,
        0xFF, 0xFF, 0x80, 0x00, 0x00, 0x00, 0x00, 0x00, 0x00, 0x01, 0xB8] := by decide
/-- Vector B1. -/
theorem test_macGen_starts : statusAfter 0x10012 State.reset = some 0x81 := by decide
/-- Vector B2: MAC_RUN while BUSY = 1. -/
theorem test_macRun_dropped_while_busy :
    statusAfter 0x10011 busyState = some 0xC1 ∧ statusAfter 0x10010 busyState = some 0xC1
      ∧ statusAfter 0x10012 busyState = some 0xC1 := by decide
/-- Vector B3: MAC_RUN after completion. -/
theorem test_macRun_starts : statusAfter 0x10011 { State.reset with macValid := true } = some 0x81 := by decide
/-- The MAC agent's step at the end of the inputs: vectors B1 and V2, MACOUT as R142's example. -/
theorem test_mac_completion :
    (match step { v2State with busy := true, msg := assembledMsg v2State } with
      | .next t => some (statusByte t, t.macout.toList)
      | .fault _ => none
      | .refused _ => none)
    = some (0x82, [0x61, 0x2A, 0xF8, 0x1D, 0xAE, 0xAE, 0x9E, 0x0D, 0x50, 0xCA, 0x7F, 0x1E, 0x95, 0x0B, 0xA5, 0x71,
        0x57, 0x59, 0xEB, 0x60]) := by decide +kernel
/-- Vector B8: a reset abandons the MAC and leaves MACOUT zero, whoever's turn it was. -/
theorem test_reset_event :
    (match step { busyState with macout := Vector.replicate 20 0x5A, inputs := [⟨true, .mac⟩] } with
      | .next t => some (statusByte t, t.macout)
      | .fault _ => none
      | .refused _ => none)
    = some (0x80, Vector.replicate 20 0x00) := by decide

/-- Vectors C1, C3, C5 and C6. -/
theorem test_crc16_vectors :
    crc16 defaultBuild [] = 0x0000 ∧ crc16 defaultBuild [0x80] = 0xA001
      ∧ crc16 defaultBuild [0x31, 0x32, 0x33, 0x34, 0x35, 0x36, 0x37, 0x38, 0x39] = 0xBB3D
      ∧ crc16 defaultBuild (writeScratchpadFrame 0x0000 #v[1, 2, 3, 4, 5, 6, 7, 8]) = 0xD0C0 := by decide +kernel
/-- Vector C7: a read-scratchpad frame with ES 0x07. -/
theorem test_crc16_read_frame :
    crc16 defaultBuild (readScratchpadFrame 0x0000 0x07 #v[1, 2, 3, 4, 5, 6, 7, 8]) = 0x2D4D := by decide +kernel
/-- V1's working variables after round 1, and its first expanded schedule words. -/
theorem test_sha_rounds_of_v1 :
    shaRounds ((schedule (assembledMsg State.reset)).take 2) 0 shaIv
        = ⟨0x5D43E380, 0x9FB498B3, 0x59D148C0, 0x7BF36AE2, 0x98BADCFE⟩
      ∧ ((schedule (assembledMsg State.reset)).drop 16).take 4
        = [0xFFFFFF01, 0x00000000, 0x00000370, 0xFFFFFE03] := by decide

/-- The assembly spelling (R88) and the pseudo-instructions (R89; program P4's first words). -/
theorem test_asm :
    asmText (.wr 0x10 0xAA) = "WR 0x10, 0xAA" ∧ asmText (.cmdUndef 0x20) = "CMD_UNDEF 0x20"
      ∧ asmName (locate 0x13) = some "SECRET+3"
      ∧ (wrBuf 0x10 [0xAA, 0xAA]).map encode = [0x110AA, 0x111AA]
      ∧ (rdBuf 0xC0 2).map encode = [0x0C000, 0x0C100]
      ∧ (crcRx 0x3F 0x2F).map encode = [0x1053F, 0x1062F] := by decide

/-- The register map at the ends of its rows (R22, and its examples). -/
theorem test_register_map_boundaries :
    locate 0x13 = .secret 3 ∧ locate 0x17 = .secret 7 ∧ locate 0x18 = .serial 0 ∧ locate 0x1F = .serial 7
      ∧ locate 0x20 = .spad 0 ∧ locate 0x27 = .spad 7 ∧ locate 0x30 = .page 0 ∧ locate 0x4B = .page 27
      ∧ locate 0x80 = .msg 0 ∧ locate 0xA8 = .msg 40 ∧ locate 0xBF = .msg 63 ∧ locate 0xC0 = .macout 0
      ∧ locate 0xD3 = .macout 19 := by decide
theorem test_reserved_boundaries :
    [(0x07 : Addr), 0x0F, 0x2A, 0x2F, 0x4C, 0x7F, 0xD4, 0xFF].all (fun a => locate a == .reserved) = true := by decide

-- Witnesses: the hypotheses of each statement, met together.

theorem witness_DecodeFollowsTheOrderOfTheSpec :
    (0x00155 : BusWord).getLsbD 16 = false
      ∧ ((0x10012 : BusWord).getLsbD 16 = true ∧ (0x10012 : BusWord).extractLsb' 8 8 = 0x00)
      ∧ ((0x10013 : BusWord).extractLsb' 0 8 ∉ ([0x00, 0x01, 0x02, 0x03, 0x10, 0x11, 0x12] : List Byte))
      ∧ ((0x104FF : BusWord).getLsbD 16 = true ∧ (0x104FF : BusWord).extractLsb' 8 8 = 0x04)
      ∧ ((0x10500 : BusWord).extractLsb' 8 8 ≠ 0x00 ∧ (0x10500 : BusWord).extractLsb' 8 8 ≠ 0x04) := by decide
theorem witness_DecodeOfEncodeIsTheInstruction :
    (Instr.wr 0x05 0xFF).WellFormed ∧ (Instr.cmdUndef 0x13).WellFormed ∧ (Instr.rd 0xFF).WellFormed := by decide
theorem witness_RegisterMapNamesEveryAddress :
    accessOf (locate 0x4B) = .readWrite ∧ accessOf (locate 0x80) = .readOnly
      ∧ accessOf (locate 0x04) = .writeOnly := by decide
theorem witness_ReservedAddressesHoldNothing :
    (0x07 ≤ (0x0F : Addr).toNat ∧ (0x0F : Addr).toNat ≤ 0x0F) ∧ 0xD4 ≤ (0xFF : Addr).toNat := by decide
theorem witness_WritesToReadOnlyAddressesAreIgnored :
    (0x80 ≤ (0xBF : Addr).toNat ∧ (0xBF : Addr).toNat ≤ 0xBF) ∧ (0xC0 ≤ (0xD3 : Addr).toNat) := by decide
theorem witness_WriteOnlyAddressesReadZero :
    isReservedAddress 0x07 = true ∧ isReservedAddress 0xFF = true ∧ isReservedAddress 0x06 = false := by decide
theorem witness_MacoutReadWhileBusyIsAFreshDraw :
    0xC0 ≤ (0xD3 : Addr).toNat ∧ (0xD3 : Addr).toNat ≤ 0xD3 ∧ busyState.busy = true := by decide
theorem witness_ReadsLeaveTheWindowUnchanged :
    ∃ t, exec (.rd 0xC0) busyState = .next t ∧ readIsFree busyState 0x80 = false := ⟨_, rfl, by decide⟩
theorem witness_WrittenByteReadsBackAndNoOtherChanges :
    isReadWriteAddress 0x4B = true ∧ (0x4A : Addr) ≠ 0x4B ∧ isReadWriteAddress 0x4C = false := by decide
theorem witness_ClrErrClearsTheErrorFlags :
    statusByte { State.reset with errBusy := true, errCmd := true, errCrc := true, crcChecked := true } = 0xF4 := by
  decide
theorem witness_UndefinedCodeSetsErrCmdOnly :
    (0x04 ≤ (0x0F : Byte).toNat ∧ (0x0F : Byte).toNat ≤ 0x0F) ∧ 0x13 ≤ (0x13 : Byte).toNat := by decide
theorem witness_WrStoresInReadWriteRegistersOnly :
    (0x05 : Addr) ≠ 0x00 ∧ (0x05 : Addr) ≠ 0x04 ∧ isReadWriteAddress 0xD3 = false
      ∧ (0x03 : Addr) ≠ 0x00 ∧ (0x03 : Addr) ≠ 0x04 ∧ isReadWriteAddress 0x03 = false := by decide
theorem witness_WritesMadeTwiceRunTwice :
    (State.reset.build.crcPresent = true ∧ State.reset.busy = false)
      ∧ ∃ t, exec .crcCheck (fedState 0x2F 0x3F) = .next t ∧ t.crcOk = false := ⟨by decide, _, rfl, by decide⟩
theorem witness_InstructionsNoWordStandsForAreHarmless :
    ¬ (Instr.wr 0x04 0xFF).WellFormed ∧ ¬ (Instr.cmdUndef 0x12).WellFormed := by decide
theorem witness_RdReturnsTheNamedByte :
    isReservedAddress 0x2A = true ∧ State.reset.busy = false ∧ busyState.busy = true := by decide
theorem witness_DefaultCrcStepShiftsEightTimes : defaultBuild.crcStepTable = [] := by decide
theorem witness_CrcFeedStepsTheAccumulator :
    State.reset.build.crcPresent = true ∧ State.reset.build.crcStepTable = [] ∧ State.reset.crc = 0x0000
      ∧ noCrcState.build.crcPresent = false := by decide
theorem witness_CrcInitStartsAnAccumulation :
    (fedState 0x3F 0x2F).crc = 0xD0C0
      ∧ statusByte { fedState 0x3F 0x2F with crcChecked := true, crcOk := true } = 0x8C := by decide
theorem witness_CrcCheckComparesTheComplement :
    ~~~(fedState 0x3F 0x2F).crc
        = ((fedState 0x3F 0x2F).crcRx1.setWidth 16 <<< 8 ||| (fedState 0x3F 0x2F).crcRx0.setWidth 16 : Half)
      ∧ ~~~(fedState 0x3F 0x2F).crc
        ≠ ((fedState 0x2F 0x3F).crcRx1.setWidth 16 <<< 8 ||| (fedState 0x2F 0x3F).crcRx0.setWidth 16 : Half)
      ∧ statusByte (fedState 0x3F 0x2F) = 0x80 ∧ (fedState 0x3F 0x2F).build.crcStepTable = [] := by decide
/-- Vector C6 and a flip of its first data byte's lowest bit (vector C9), of CRC_RX0's lowest bit and
of CRC_RX1's highest. -/
theorem witness_SingleFlippedBitFailsTheCheck :
    let fed := writeScratchpadFrame 0x0000 #v[1, 2, 3, 4, 5, 6, 7, 8]
    FramePasses defaultBuild fed 0x3F 0x2F ∧ OneBitFlipped 0 fed 0x3F 0x2F (fed.set 3 0x00) 0x3F 0x2F
      ∧ OneBitFlipped 0 fed 0x3F 0x2F fed 0x3E 0x2F ∧ OneBitFlipped 7 fed 0x3F 0x2F fed 0x3F 0xAF := by
  refine ⟨?_, .inl ⟨3, by decide, by decide, rfl, rfl⟩, .inr (.inl (by decide)), .inr (.inr (by decide))⟩
  unfold FramePasses
  decide +kernel
/-- The states of that check: the flipped CRC_RX0, with and without the CRC unit. -/
theorem witness_SingleFlippedBitFailsTheCheck_state :
    (fedState 0x3E 0x2F).crc = crc16 defaultBuild (writeScratchpadFrame 0x0000 #v[1, 2, 3, 4, 5, 6, 7, 8])
      ∧ (fedState 0x3E 0x2F).crcRx0 = 0x3E ∧ (fedState 0x3E 0x2F).crcRx1 = 0x2F
      ∧ defaultBuild.crcPresent = true ∧ noCrcState.build.crcStepTable = [] ∧ noCrcState.build.crcPresent = false := by
  decide +kernel
theorem witness_AccumulatorIsTheCrcOfTheBytesFed :
    let s := { State.reset with inputs := [hostSlot 0x10401, ⟨false, .mac⟩, ⟨true, .mac⟩] }
    s.build.crcPresent = true ∧ s.inputs = [hostSlot 0x10401, ⟨false, .mac⟩] ++ [⟨true, .mac⟩]
      ∧ s.crc = crc16 s.build [] := by decide
theorem witness_MacCommandsAcceptedAndDropped :
    (State.reset.busy = false ∧ busyState.busy = true)
      ∧ (∃ t, exec .macRun State.reset = .next t) ∧ ∃ t, exec .macGen State.reset = .next t :=
  ⟨by decide, ⟨_, rfl⟩, ⟨_, rfl⟩⟩
theorem witness_MacGenAssemblesAndStarts : MsgLayout v2State (assembledMsg v2State) := by
  constructor <;> decide
theorem witness_MacCompletionWritesMacout :
    let s := { busyState with inputs := [⟨false, .mac⟩] }
    s.busy = true ∧ s.inputs = ⟨false, .mac⟩ :: []
      ∧ { busyState with inputs := [⟨true, .mac⟩] }.inputs = ⟨true, .mac⟩ :: [] := by decide
theorem witness_MessageHoldsExactlyTheInputBitsOfTheLayout :
    ∃ t t', State.reset.busy = false ∧ v2State.busy = false ∧ State.reset.build = v2State.build
      ∧ exec .macGen State.reset = .next t ∧ exec .macGen v2State = .next t' :=
  ⟨_, _, by decide, by decide, by decide, rfl, rfl⟩
theorem witness_Sha1OfTheMessageIsMacfPlusIv :
    ∃ t, v2State.busy = false ∧ v2State.build.macPad = macPadDefault ∧ exec .macAssemble v2State = .next t :=
  ⟨_, by decide, by decide, rfl⟩
theorem witness_HostTransactionsKeepTheMacInFlight :
    let s := { busyState with inputs := [hostSlot 0x10012] }
    s.busy = true ∧ s.inputs = hostSlot 0x10012 :: [] := by decide
theorem witness_MacInFlightCompletesOverItsMessage :
    let s := { busyState with inputs := [hostSlot 0x120FF, hostSlot 0x10011, ⟨false, .mac⟩, hostSlot 0x00100] }
    let s' := { busyState with inputs := [hostSlot 0x120FF] }
    (s.busy = true ∧ s.inputs = [0x120FF, 0x10011].map hostSlot ++ ⟨false, .mac⟩ :: [hostSlot 0x00100])
      ∧ s'.inputs = [0x120FF].map hostSlot := by decide
theorem witness_ErrorFlagsStayUntilClrErrOrReset :
    let s := { fedState 0x3F 0x2F with errCrc := true, inputs := [hostSlot 0x10002] }
    errorFlag s .crc = true ∧ (∃ t, step s = .next t)
      ∧ ∀ slot, s.inputs.head? = some slot → slot.reset = false ∧ ∀ w, slot.turn = .host w → decode w ≠ .clrErr := by
  refine ⟨by decide, ⟨_, rfl⟩, ?_⟩
  rintro slot h
  cases h
  refine ⟨rfl, ?_⟩
  rintro w h
  cases h
  decide
theorem witness_ErrorFlagsStayUntilClrErrOrReset_cleared :
    decode 0x10003 = .clrErr ∧ { busyState with inputs := [hostSlot 0x10003] }.inputs = hostSlot 0x10003 :: []
      ∧ { busyState with inputs := [⟨true, .mac⟩] }.inputs = ⟨true, .mac⟩ :: [] := by decide
theorem witness_ErrorCause :
    ErrorCause (fedState 0x2F 0x3F) (decode 0x10002) .crc ∧ ErrorCause busyState (decode 0x100FF) .cmd
      ∧ ErrorCause busyState (decode 0x10012) .busy := by
  refine ⟨?_, ⟨0xFF, by decide⟩, ?_⟩ <;> unfold ErrorCause <;> decide
theorem witness_ErrorFlagsRiseOnlyForTheirCause :
    let s := { busyState with inputs := [hostSlot 0x10011] }
    errorFlag s .busy = false ∧ ∃ t, step s = .next t ∧ errorFlag t .busy = true :=
  ⟨by decide, _, rfl, by decide⟩
theorem witness_OneTransactionSetsAtMostOneErrorFlag :
    ∃ t, exec .macRun busyState = .next t ∧ errorFlag busyState .busy = false ∧ errorFlag t .busy = true :=
  ⟨_, rfl, by decide, by decide⟩
theorem witness_OnlyCommandsWriteFlags :
    ∃ t, exec .macRun State.reset = .next t ∧ statusByte t ≠ statusByte State.reset := ⟨_, rfl, by decide⟩
theorem witness_RegistersChangeOnlyByTheirWriters :
    let s := { State.reset with inputs := [hostSlot 0x110AA] }
    (s.inputs.head? = some (hostSlot 0x110AA) ∧ (hostSlot 0x110AA).reset = false)
      ∧ (∃ t, step s = .next t ∧ t.secret ≠ s.secret)
      ∧ busyState.inputs.head? = none ∧ ∃ t, step busyState = .next t ∧ t.macout ≠ busyState.macout :=
  ⟨⟨rfl, rfl⟩, ⟨_, rfl, by decide⟩, rfl, _, rfl, by decide +kernel⟩
theorem witness_MacAgentStepsOnlyWhileBusy :
    (State.reset.busy = false ∧ { State.reset with inputs := [⟨false, .mac⟩] }.inputs = ⟨false, .mac⟩ :: [])
      ∧ (busyState.inputs = [] ∧ busyState.busy = true) ∧ State.reset.inputs = [] := by decide
theorem witness_HostThatKeepsItsDutiesRaisesNoErrCmdOrErrBusy :
    HostDuty State.reset (.rd 0xD3) ∧ HostDuty State.reset .macGen ∧ ∃ t, exec .macGen State.reset = .next t := by
  refine ⟨?_, ?_, ⟨_, rfl⟩⟩
  · unfold HostDuty; decide
  · unfold HostDuty; decide
theorem witness_StepRunsTheDecodedTransaction :
    let s := { State.reset with inputs := [hostSlot 0x10012] }
    s.inputs = hostSlot 0x10012 :: [] ∧
      ∃ t, exec (decode 0x10012) { s with inputs := [], rdata := none } = .next t ∧ t.busy = true :=
  ⟨rfl, _, rfl, by decide⟩
theorem witness_ResetEventSetsEveryRegister :
    { busyState with inputs := [⟨true, .host 0x110AA⟩] }.inputs = ⟨true, .host 0x110AA⟩ :: [] := by decide
theorem witness_EndedRunStaysAsItIs : Ended State.reset ∧ busyState.inputs = [] ∧ busyState.busy = true := by
  refine ⟨?_, by decide, by decide⟩
  unfold Ended
  decide
theorem witness_BuildNeverChanges : ∃ t, core.run 1 State.reset = .next t := ⟨_, rfl⟩
theorem witness_EveryStepKeepsTheInvariant : BlockInv State.reset ∧ ∃ t, step State.reset = .next t :=
  ⟨⟨by decide, by decide, by decide, by decide⟩, _, rfl⟩
theorem witness_HiddenMacStateIsNeverObserved :
    SameButHidden busyState (setHidden ⟨⟨1, 2, 3, 4, 5⟩, Vector.replicate 80 7, 40⟩ busyState) := rfl

end Sys2Proof.Tests
end

/-! PROOFS. The parameters of a build (00_scope.md R6, R7): every CRC_STEP is that of some build, and no step changes
the build. -/

namespace Sys2Proof.Machine

/-! CRC_STEP as plain data: its domain is finite, so a list of all its points holds any function (log 9). -/

/-- Every word of `n` bits. -/
def allWords (n : Nat) : List (BitVec n) := (List.finRange (2 ^ n)).map BitVec.ofFin

theorem mem_allWords {n : Nat} (v : BitVec n) : v ∈ allWords n :=
  List.mem_map.mpr ⟨v.toFin, List.mem_finRange _, rfl⟩

/-- The table that gives the value of `f` at every accumulator and byte. -/
def fullTable (f : Half → Byte → Half) : List ((Half × Byte) × Half) :=
  (allWords 16 ×ˢ allWords 8).map fun p => (p, f p.1 p.2)

theorem lookup_fullTable (f : Half → Byte → Half) (c : Half) (v : Byte) :
    (fullTable f).lookup (c, v) = some (f c v) :=
  List.lookup_graph (fun p : Half × Byte => f p.1 p.2) (List.mem_product.mpr ⟨mem_allWords c, mem_allWords v⟩)

/-- CRC_STEP at a point of the build's table is the value there (R7). -/
theorem crcStepOf_of_lookup {b : Config.Build} {c x : Half} {v : Byte}
    (h : b.crcStepTable.lookup (c, v) = some x) : crcStepOf b c v = x := by
  rw [crcStepOf, h, Option.getD_some]

/-- Settles O20: the full table of `f` leaves no point to the default. -/
theorem everyCrcStepIsSomeBuild : Obligations.EveryCrcStepIsSomeBuild := by
  intro f
  refine ⟨fullTable f, fun b hb c v => crcStepOf_of_lookup ?_⟩
  rw [hb, lookup_fullTable]

/-! Runs: what every step keeps, a run of any length keeps. -/

/-- A run of `n + 1` steps that answers a next state is a step and a run of `n` steps. -/
theorem run_succ_cases {M : Host.Core} {n : Nat} {s t : M.State} (h : M.run (n + 1) s = .next t) :
    ∃ u, M.step s = .next u ∧ M.run n u = .next t := by
  unfold Host.Core.run at h
  split at h
  · next u hu => exact ⟨u, hu, h⟩
  · cases h
  · cases h

theorem run_keeps {M : Host.Core} {P : M.State → Prop} (hstep : ∀ s t, P s → M.step s = .next t → P t)
    {n : Nat} {s t : M.State} (hs : P s) (h : M.run n s = .next t) : P t := by
  induction n generalizing s with
  | zero =>
    obtain rfl := Host.Outcome.next.inj h
    exact hs
  | succ n ih =>
    obtain ⟨u, hu, hrun⟩ := run_succ_cases h
    exact ih (hstep s u hs hu) hrun

/-! The build: each operation leaves it, so each instruction and each step does. -/

/-- The guard of the MAC commands leaves the build if the accepted command does (41_mac.md R144). -/
theorem unlessBusy_build {f : State → State} {s : State} (hf : (f s).build = s.build) :
    (unlessBusy f s).build = s.build := by
  obtain ⟨-, h⟩ | ⟨-, h⟩ := unlessBusy_cases f s
  · rw [h, recordError_busy_build]
  · rw [h, hf]

theorem exec_build {i : Instr} {s t : State} (h : exec i s = .next t) : t.build = s.build := by
  cases i with
  | macAssemble | macRun | macGen =>
    obtain rfl := Host.Outcome.next.inj h
    exact unlessBusy_build (by simp)
  | rd a =>
    obtain rfl := Host.Outcome.next.inj h
    rw [respond_build]
    split
    · exact draw_build s
    · rfl
  | nop | crcInit | crcCheck | clrErr | cmdUndef | crcFeed | wr =>
    obtain rfl := Host.Outcome.next.inj h
    simp

theorem macTurn_build (s : State) : (macTurn s).build = s.build := by
  obtain ⟨-, h⟩ | ⟨-, h⟩ := macTurn_cases s
  · rw [h, storeMac_build]
  · rw [h]

theorem step_build {s t : State} (h : step s = .next t) : t.build = s.build := by
  obtain ⟨-, rfl⟩ | ⟨turn, rest, -, rfl⟩ | ⟨rest, -, rfl⟩ | ⟨w, rest, u, -, hu, rfl⟩ := step_cases h
  · exact macTurn_build s
  · rw [resetEvent_build, setInputs_build]
  · rw [macTurn_build, setInputs_build]
  · rw [churnHidden_build, exec_build hu, clearResponse_build, setInputs_build]

/-- Settles O52, by induction on the number of steps: every step keeps the build. -/
theorem buildNeverChanges : Obligations.BuildNeverChanges := by
  intro n s t hrun
  exact run_keeps (P := fun u : State => u.build = s.build) (fun _ _ hu h => (step_build h).trans hu) rfl hrun

end Sys2Proof.Machine

/-! PROOFS. The registers of the block (10_state.md): what every step keeps, who writes each register, and the
register map. -/

namespace Sys2Proof.Machine

/-! The parts of a step, by case: what answers, and what BUSY decides. -/

/-- Every instruction answers a next state (20_memory.md R66). -/
theorem exec_next (i : Instr) (s : State) : ∃ t, exec i s = .next t := by
  cases i <;> exact ⟨_, rfl⟩

theorem hostTurn_of_exec {w : BusWord} {s u : State} (h : exec (decode w) (clearResponse s) = .next u) :
    hostTurn w s = .next (churnHidden u) := by
  rw [hostTurn, h]

theorem churnHidden_of_busy {s : State} (h : s.busy = true) :
    churnHidden s = { s with hidden := Config.freeHidden s.draws, draws := s.draws + 1 } :=
  if_pos h

theorem churnHidden_of_idle {s : State} (h : s.busy = false) : churnHidden s = s :=
  if_neg (by simp [h])

theorem macTurn_of_busy {s : State} (h : s.busy = true) : macTurn s = completeMac s :=
  if_pos h

/-- While BUSY = 0 the MAC agent has no step (41_mac.md R143; log 15). -/
theorem macTurn_of_idle {s : State} (h : s.busy = false) : macTurn s = s :=
  if_neg (by simp [h])

/-- What neither outcome of the guard of the MAC commands changes, the guarded command does not change. -/
theorem unlessBusy_eq {α : Type} (g : State → α) {f : State → State} {s : State}
    (hdropped : g (recordError .busy s) = g s) (haccepted : g (f s) = g s) : g (unlessBusy f s) = g s := by
  obtain ⟨-, h⟩ | ⟨-, h⟩ := unlessBusy_cases f s <;> rw [h]
  · exact hdropped
  · exact haccepted

/-- A read uses up a draw or none (20_memory.md R64): what a draw does not change, it does not change. -/
theorem ite_draw_eq {α : Type} (g : State → α) {s : State} (c : Bool) (hdraw : g (draw s) = g s) :
    g (if c then draw s else s) = g s := by
  split
  · exact hdraw
  · rfl

/-! The invariant of the flags and MACOUT. -/

/-- What the invariant says of the CRC unit speaks of these fields. -/
def checkFields (s : State) := (s.build, s.crcChecked, s.crcOk, s.errCrc)

/-- What the invariant says of the MAC unit speaks of these fields. -/
def macFields (s : State) := (s.busy, s.macValid, s.msg, s.macout)

/-- An operation that leaves the CRC unit's fields owes only what the MAC unit promises. -/
theorem BlockInv.of_checkFields_eq {s t : State} (hs : BlockInv s) (hcheck : checkFields t = checkFields s)
    (hbusy : t.busy = true → t.macValid = false)
    (hvalid : t.macValid = true → t.macout = serializeMac (macf t.msg)) : BlockInv t := by
  simp only [checkFields, Prod.mk.injEq] at hcheck
  obtain ⟨hbuild, hchecked, hok, herr⟩ := hcheck
  refine ⟨?_, hbusy, hvalid, ?_⟩
  · rw [hok, hchecked]
    exact hs.okIsChecked
  · rw [hbuild, hok, hchecked, herr]
    exact hs.checkPassesWithoutCrc

/-- The invariant speaks of no other field. -/
theorem BlockInv.of_fields_eq {s t : State} (hs : BlockInv s) (hcheck : checkFields t = checkFields s)
    (hmac : macFields t = macFields s) : BlockInv t := by
  simp only [macFields, Prod.mk.injEq] at hmac
  obtain ⟨hbusy, hvalid, hmsg, hmacout⟩ := hmac
  refine hs.of_checkFields_eq hcheck ?_ ?_
  · rw [hbusy, hvalid]
    exact hs.busyNotValid
  · rw [hvalid, hmacout, hmsg]
    exact hs.validMac

/-- CRC_INIT: CRC_OK and CRC_CHECKED go to 0 together (40_crc16.md R104). -/
theorem BlockInv.clearCheck {s : State} (hs : BlockInv s) : BlockInv (clearCheck s) where
  okIsChecked := by simp
  busyNotValid := hs.busyNotValid
  validMac := hs.validMac
  checkPassesWithoutCrc h := ⟨rfl, (hs.checkPassesWithoutCrc h).2⟩

/-- CRC_CHECK: the check has been made, and without the CRC unit it passed (40_crc16.md R106). -/
theorem BlockInv.recordCheck {s : State} (hs : BlockInv s) : BlockInv (recordCheck (checkPasses s) s) := by
  obtain ⟨-, h⟩ | ⟨hfail, h⟩ := recordCheck_cases (checkPasses s) s <;> rw [h]
  · exact ⟨fun _ => rfl, hs.busyNotValid, hs.validMac, fun hb => ⟨rfl, (hs.checkPassesWithoutCrc hb).2⟩⟩
  · refine ⟨fun _ => rfl, hs.busyNotValid, hs.validMac, fun hb => ?_⟩
    have hpass : checkPasses s = true := by simp [checkPasses, show s.build.crcPresent = false from hb]
    simp [hpass] at hfail

theorem BlockInv.clearErrors {s : State} (hs : BlockInv s) : BlockInv (clearErrors s) where
  okIsChecked := hs.okIsChecked
  busyNotValid := hs.busyNotValid
  validMac := hs.validMac
  checkPassesWithoutCrc h := ⟨(hs.checkPassesWithoutCrc h).1, rfl⟩

/-- With MAC_VALID = 0 nothing is promised of MSG, MACOUT and BUSY, so the MAC commands may set them
(41_mac.md R140 to R142). -/
theorem BlockInv.of_not_macValid {s t : State} (hs : BlockInv s) (hcheck : checkFields t = checkFields s)
    (hvalid : t.macValid = false) : BlockInv t :=
  hs.of_checkFields_eq hcheck (fun _ => hvalid) (by simp [hvalid])

theorem BlockInv.unlessBusy {s : State} {f : State → State} (hs : BlockInv s)
    (haccepted : BlockInv (f s)) : BlockInv (unlessBusy f s) := by
  obtain ⟨-, h⟩ | ⟨-, h⟩ := unlessBusy_cases f s <;> rw [h]
  · exact hs.of_fields_eq rfl rfl
  · exact haccepted

/-- Every instruction keeps the invariant. -/
theorem BlockInv.exec {i : Instr} {s t : State} (hs : BlockInv s) (h : exec i s = .next t) : BlockInv t := by
  cases i with obtain rfl := Host.Outcome.next.inj h
  | nop => exact hs
  | crcInit =>
    have hstore : BlockInv (storeCrc 0x0000 s) := hs.of_fields_eq (by simp [checkFields]) (by simp [macFields])
    exact hstore.clearCheck
  | crcCheck => exact hs.recordCheck
  | clrErr => exact hs.clearErrors
  | macAssemble | macRun | macGen =>
    exact hs.unlessBusy (hs.of_not_macValid (by simp [checkFields]) (by simp))
  | rd a =>
    exact hs.of_fields_eq (ite_draw_eq (fun u => checkFields (respond (readByte s a) u)) _ rfl)
      (ite_draw_eq (fun u => macFields (respond (readByte s a) u)) _ rfl)
  | cmdUndef | crcFeed | wr =>
    exact hs.of_fields_eq (by simp [checkFields]) (by simp [macFields])

/-- MAC completion: MACOUT becomes the MAC of MSG as MAC_VALID goes to 1 (41_mac.md R143). -/
theorem BlockInv.macTurn {s : State} (hs : BlockInv s) : BlockInv (macTurn s) := by
  obtain ⟨-, h⟩ | ⟨-, h⟩ := macTurn_cases s <;> rw [h]
  · exact hs.of_checkFields_eq rfl (by simp) fun _ => rfl
  · exact hs

theorem BlockInv.resetEvent (s : State) : BlockInv (resetEvent s) := by
  constructor <;> simp [powerOn]

/-- Settles O53: the invariant is kept by the reset event, the MAC agent's turn and every instruction, and the rest of
a step touches none of its fields. -/
theorem everyStepKeepsTheInvariant : Obligations.EveryStepKeepsTheInvariant := by
  intro s t hs h
  have hinputs (l : List Slot) : BlockInv (setInputs l s) := hs.of_fields_eq rfl rfl
  obtain ⟨-, rfl⟩ | ⟨turn, rest, -, rfl⟩ | ⟨rest, -, rfl⟩ | ⟨w, rest, u, -, hu, rfl⟩ := step_cases h
  · exact hs.macTurn
  · exact .resetEvent _
  · exact (hinputs rest).macTurn
  · have hclear : BlockInv (clearResponse (setInputs rest s)) := hs.of_fields_eq rfl rfl
    exact (hclear.exec hu).of_fields_eq (by simp [checkFields]) (by simp [macFields])

/-! Noninterference: every operation commutes with setting the hidden MAC state, or sets it itself (10_state.md R36). -/

theorem sameButHidden_iff {s t : State} : SameButHidden s t ↔ ∃ h, t = setHidden h s :=
  ⟨fun h => ⟨t.hidden, h⟩, by rintro ⟨h, rfl⟩; rfl⟩

theorem sameButHidden_setHidden (s : State) (h : MacHidden) : SameButHidden s (setHidden h s) :=
  sameButHidden_iff.mpr ⟨h, rfl⟩

theorem readByte_setHidden (h : MacHidden) (s : State) (a : Addr) : readByte (setHidden h s) a = readByte s a := by
  unfold readByte
  cases locate a <;> rfl

theorem readIsFree_setHidden (h : MacHidden) (s : State) (a : Addr) :
    readIsFree (setHidden h s) a = readIsFree s a := by
  rw [readIsFree_eq, readIsFree_eq, setHidden_busy]

theorem writeByte_setHidden (h : MacHidden) (s : State) (a : Addr) (d : Byte) :
    writeByte (setHidden h s) a d = setHidden h (writeByte s a d) := by
  unfold writeByte
  cases locate a <;> rfl

theorem storeCrc_setHidden (c : Half) (h : MacHidden) (s : State) :
    storeCrc c (setHidden h s) = setHidden h (storeCrc c s) := by
  obtain ⟨hp, hs⟩ | ⟨hp, hs⟩ := storeCrc_cases c s <;> rw [hs]
  · exact if_pos hp
  · exact if_neg (by simp [hp])

theorem recordCheck_setHidden (ok : Bool) (h : MacHidden) (s : State) :
    recordCheck ok (setHidden h s) = setHidden h (recordCheck ok s) := by
  cases ok <;> rfl

theorem unlessBusy_setHidden {f : State → State} {h : MacHidden} {s : State}
    (hf : f (setHidden h s) = setHidden h (f s)) :
    unlessBusy f (setHidden h s) = setHidden h (unlessBusy f s) := by
  obtain ⟨hb, hs⟩ | ⟨hb, hs⟩ := unlessBusy_cases f s <;> rw [hs]
  · exact if_pos hb
  · exact (if_neg (by simp [hb])).trans hf

/-- An instruction neither reads nor writes the hidden MAC state. -/
theorem exec_setHidden {i : Instr} {s t : State} (h : MacHidden) (ht : exec i s = .next t) :
    exec i (setHidden h s) = .next (setHidden h t) := by
  cases i with obtain rfl := Host.Outcome.next.inj ht
  | nop | clrErr | cmdUndef => rfl
  | crcInit =>
    rw [exec_crcInit, storeCrc_setHidden]
    rfl
  | crcFeed d => exact congrArg _ (storeCrc_setHidden _ h s)
  | crcCheck => exact congrArg _ (recordCheck_setHidden _ h s)
  | macAssemble | macRun | macGen =>
    refine congrArg Host.Outcome.next (unlessBusy_setHidden ?_)
    rfl
  | wr a d => exact congrArg _ (writeByte_setHidden h s a d)
  | rd a =>
    rw [exec_rd, readByte_setHidden, readIsFree_setHidden]
    split_ifs <;> rfl

/-- After a transaction the hidden state is kept or freely drawn, whatever it was. -/
theorem sameButHidden_churnHidden (h : MacHidden) (s : State) :
    SameButHidden (churnHidden s) (churnHidden (setHidden h s)) := by
  cases hb : s.busy
  · rw [churnHidden_of_idle hb, churnHidden_of_idle (s := setHidden h s) hb]
    exact sameButHidden_setHidden s h
  · rw [churnHidden_of_busy hb, churnHidden_of_busy (s := setHidden h s) hb]
    rfl

/-- MAC completion computes its result from MSG alone (41_mac.md R143). -/
theorem sameButHidden_macTurn (h : MacHidden) (s : State) :
    SameButHidden (macTurn s) (macTurn (setHidden h s)) := by
  cases hb : s.busy
  · rw [macTurn_of_idle hb, macTurn_of_idle (s := setHidden h s) hb]
    exact sameButHidden_setHidden s h
  · rw [macTurn_of_busy hb, macTurn_of_busy (s := setHidden h s) hb]
    rfl

theorem run_succ_of_step {M : Host.Core} {s u : M.State} (h : M.step s = .next u) (n : Nat) :
    M.run (n + 1) s = M.run n u := by
  rw [Host.Core.run, h]

/-- Every step answers a next state (60_exceptions.md R200). -/
theorem step_next (s : State) : ∃ t, step s = .next t := by
  rcases hi : s.inputs with _ | ⟨⟨_ | _, w | _⟩, rest⟩
  · exact ⟨_, step_nil hi⟩
  · obtain ⟨u, hu⟩ := exec_next (decode w) (clearResponse (setInputs rest s))
    exact ⟨_, (step_host hi).trans (hostTurn_of_exec hu)⟩
  · exact ⟨_, step_mac hi⟩
  · exact ⟨_, step_reset hi⟩
  · exact ⟨_, step_reset hi⟩

/-- One step keeps the relation, and the second machine steps whenever the first does. -/
theorem step_setHidden {s t : State} (h : MacHidden) (ht : step s = .next t) :
    ∃ t', step (setHidden h s) = .next t' ∧ SameButHidden t t' := by
  obtain ⟨hi, rfl⟩ | ⟨turn, rest, hi, rfl⟩ | ⟨rest, hi, rfl⟩ | ⟨w, rest, u, hi, hu, rfl⟩ := step_cases ht
  · exact ⟨_, step_nil hi, sameButHidden_macTurn h s⟩
  · exact ⟨_, step_reset hi, rfl⟩
  · exact ⟨_, step_mac hi, sameButHidden_macTurn h (setInputs rest s)⟩
  · have hu' : exec (decode w) (clearResponse (setInputs rest (setHidden h s))) = .next (setHidden h u) :=
      exec_setHidden h hu
    exact ⟨_, (step_host (s := setHidden h s) hi).trans (hostTurn_of_exec hu'), sameButHidden_churnHidden h u⟩

/-- Settles O55, by induction on the number of steps: a step keeps the relation, and no read shows the hidden state. -/
theorem hiddenMacStateIsNeverObserved : Obligations.HiddenMacStateIsNeverObserved := by
  intro n
  induction n with
  | zero =>
    intro s s' hss'
    obtain ⟨h, rfl⟩ := sameButHidden_iff.mp hss'
    exact ⟨s, _, rfl, rfl, hss', rfl, fun a => (readByte_setHidden h s a).symm⟩
  | succ n ih =>
    intro s s' hss'
    obtain ⟨h, rfl⟩ := sameButHidden_iff.mp hss'
    obtain ⟨u, hu⟩ := step_next s
    obtain ⟨u', hu', huu'⟩ := step_setHidden h hu
    obtain ⟨t, t', ht, ht', hrest⟩ := ih u u' huu'
    exact ⟨t, t', (run_succ_of_step hu n).trans ht, (run_succ_of_step hu' n).trans ht', hrest⟩

/-! The register map (10_state.md R22): a table of 256 addresses. -/

/-- The map has each named byte at its address: for a buffer, the base address plus the index. -/
theorem locate_of_addressOf {l : Loc} {a : Addr} (h : addressOf l = some a) : locate a = l := by
  cases l with
  | reserved => cases h
  | secret i | serial i | spad i | page i | msg i | macout i =>
    obtain rfl := Option.some.inj h
    revert i
    decide
  | cmd | status | crcLo | crcHi | crcDin | crcRx0 | crcRx1 | taddrLo | taddrHi =>
    obtain rfl := Option.some.inj h
    rfl

theorem locate_eq_reserved_iff (a : Addr) : locate a = .reserved ↔ isReservedAddress a = true := by
  revert a
  decide

theorem accessOf_locate_eq_readWrite_iff (a : Addr) :
    accessOf (locate a) = .readWrite ↔ isReadWriteAddress a = true := by
  revert a
  decide

theorem accessOf_locate_eq_writeOnly_iff (a : Addr) :
    accessOf (locate a) = .writeOnly ↔ a = 0x00 ∨ a = 0x04 := by
  revert a
  decide

theorem accessOf_locate_eq_readOnly_iff (a : Addr) :
    accessOf (locate a) = .readOnly ↔
      (0x01 ≤ a.toNat ∧ a.toNat ≤ 0x03) ∨ (0x80 ≤ a.toNat ∧ a.toNat ≤ 0xD3) := by
  revert a
  decide

/-! Reads and writes by access code (20_memory.md R61 to R63). -/

theorem readLoc_writeLoc_same {l : Loc} (h : accessOf l = .readWrite) (s : State) (d : Byte) :
    readLoc (writeLoc s d l) l = d := by
  cases l with
  | crcRx0 | crcRx1 | taddrLo | taddrHi => rfl
  | secret i | serial i | spad i | page i => simp [readLoc, writeLoc]
  | cmd | status | crcLo | crcHi | crcDin | msg | macout | reserved => cases h

theorem readLoc_of_writeOnly {l : Loc} (h : accessOf l = .writeOnly) (s : State) : readLoc s l = 0x00 := by
  cases l with
  | cmd | crcDin => rfl
  | status | crcLo | crcHi | crcRx0 | crcRx1 | secret | serial | spad | taddrLo | taddrHi | page | msg | macout
  | reserved => cases h

/-- Only a read-only byte, one of MACOUT, can read as a free value (20_memory.md R64). -/
theorem readIsFree_of_not_readOnly {a : Addr} (h : accessOf (locate a) ≠ .readOnly) (s : State) :
    readIsFree s a = false := by
  rw [readIsFree_eq]
  cases hl : locate a with
  | macout i => exact absurd (by rw [hl]; rfl) h
  | _ => simp

theorem exec_rd_of_not_free {s : State} {a : Addr} (h : readIsFree s a = false) :
    exec (.rd a) s = .next { s with rdata := some (readByte s a) } := by
  rw [exec_rd, h]
  rfl

/-- A write to an address that names no read/write register changes nothing (20_memory.md R62). -/
theorem exec_wr_of_not_readWrite {a : Addr} (h : accessOf (locate a) ≠ .readWrite) (s : State) (d : Byte) :
    exec (.wr a d) s = .next s := by
  rw [exec_wr, writeByte, writeLoc_of_not_readWrite s d _ h]

/-- A read/write byte reads back what was written. -/
theorem exec_rd_after_wr {a : Addr} (h : accessOf (locate a) = .readWrite) (s : State) (d : Byte) :
    exec (.rd a) (writeByte s a d) = .next { writeByte s a d with rdata := some d } := by
  have hfree : readIsFree (writeByte s a d) a = false := readIsFree_of_not_readOnly (by simp [h]) _
  have hback : readByte (writeByte s a d) a = d := readLoc_writeLoc_same h s d
  rw [exec_rd_of_not_free hfree, hback]

/-- A write-only byte reads 0x00 (20_memory.md R63). -/
theorem exec_rd_of_writeOnly {a : Addr} (h : accessOf (locate a) = .writeOnly) (s : State) :
    exec (.rd a) s = .next { s with rdata := some 0x00 } := by
  have hzero : readByte s a = 0x00 := readLoc_of_writeOnly h s
  rw [exec_rd_of_not_free (readIsFree_of_not_readOnly (by simp [h]) s), hzero]

/-- Settles O6: each row by the address of its byte, and the access codes by what a write and a read do. -/
theorem registerMapNamesEveryAddress : Obligations.RegisterMapNamesEveryAddress := by
  refine ⟨locate_of_addressOf rfl, locate_of_addressOf rfl, locate_of_addressOf rfl, locate_of_addressOf rfl,
    locate_of_addressOf rfl, locate_of_addressOf rfl, locate_of_addressOf rfl, fun _ => locate_of_addressOf rfl,
    fun _ => locate_of_addressOf rfl, fun _ => locate_of_addressOf rfl, locate_of_addressOf rfl,
    locate_of_addressOf rfl, fun _ => locate_of_addressOf rfl, fun _ => locate_of_addressOf rfl,
    fun _ => locate_of_addressOf rfl, locate_eq_reserved_iff, accessOf_locate_eq_readWrite_iff,
    accessOf_locate_eq_writeOnly_iff, accessOf_locate_eq_readOnly_iff, fun s a d => ⟨?_, ?_, ?_⟩⟩
  · exact fun h => ⟨_, exec_wr a d s, exec_rd_after_wr h s d⟩
  · exact fun h => exec_wr_of_not_readWrite (by simp [h]) s d
  · exact fun h => exec_rd_of_writeOnly h s

/-- Settles O8: the four ranges are the addresses the map calls reserved, and behind those is no state. -/
theorem reservedAddressesHoldNothing : Obligations.ReservedAddressesHoldNothing := by
  intro s a d ha
  have hloc : locate a = .reserved := by
    rw [locate_eq_reserved_iff]
    simp only [isReservedAddress, Bool.or_eq_true, Bool.and_eq_true, decide_eq_true_eq]
    omega
  have hzero : readByte s a = 0x00 := by rw [readByte, hloc]; rfl
  constructor
  · rw [exec_rd_of_not_free (readIsFree_of_not_readOnly (by simp [hloc, accessOf]) s), hzero]
  · exact exec_wr_of_not_readWrite (by simp [hloc, accessOf]) s d

/-! STATUS: its eight bits (10_state.md R24), which commands alone write (R38). -/

/-- Settles O7: STATUS is the eight flags laid end to end. -/
theorem statusReadsItsEightFields : Obligations.StatusReadsItsEightFields := by
  intro s
  simp only [statusByte, BitVec.getLsbD_append]
  simp

theorem statusByte_storeCrc (c : Half) (s : State) : statusByte (storeCrc c s) = statusByte s := by
  simp [statusByte]

theorem statusByte_writeByte (s : State) (a : Addr) (d : Byte) : statusByte (writeByte s a d) = statusByte s := by
  simp [statusByte]

theorem statusByte_read (s : State) (v : Byte) (c : Bool) :
    statusByte (respond v (if c then draw s else s)) = statusByte s :=
  ite_draw_eq (fun u => statusByte (respond v u)) c rfl

/-- Settles O44: CRC_FEED, WR and RD leave STATUS as it is. -/
theorem onlyCommandsWriteFlags : Obligations.OnlyCommandsWriteFlags := by
  intro i s t h hne
  refine ⟨?_, ?_, ?_⟩
  · rintro d rfl
    obtain rfl := Host.Outcome.next.inj h
    exact hne (statusByte_storeCrc _ s)
  · rintro a d rfl
    obtain rfl := Host.Outcome.next.inj h
    exact hne (statusByte_writeByte s a d)
  · rintro a rfl
    obtain rfl := Host.Outcome.next.inj h
    exact hne (statusByte_read s _ _)

/-! The writers of each register (10_state.md R27 to R34, 40_crc16.md R102). -/

/-- The read/write registers of the window (10_state.md R22). -/
def rwRegs (s : State) :=
  (s.crcRx0, s.crcRx1, s.secret, s.serial, s.spad, s.taddrLo, s.taddrHi, s.page)

theorem crc_writer {i : Instr} {s t : State} (h : exec i s = .next t) (hne : t.crc ≠ s.crc) :
    i = .crcInit ∨ ∃ d, i = .crcFeed d := by
  cases i with obtain rfl := Host.Outcome.next.inj h
  | crcInit => exact .inl rfl
  | crcFeed d => exact .inr ⟨d, rfl⟩
  | macAssemble | macRun | macGen => exact absurd (unlessBusy_eq State.crc rfl (by simp)) hne
  | rd a => exact absurd (ite_draw_eq State.crc _ rfl) hne
  | nop | crcCheck | clrErr | cmdUndef | wr => simp at hne

theorem msg_writer {i : Instr} {s t : State} (h : exec i s = .next t) (hne : t.msg ≠ s.msg) :
    i = .macAssemble ∨ i = .macGen := by
  cases i with obtain rfl := Host.Outcome.next.inj h
  | macAssemble => exact .inl rfl
  | macGen => exact .inr rfl
  | macRun => exact absurd (unlessBusy_eq State.msg rfl (by simp)) hne
  | rd a => exact absurd (ite_draw_eq State.msg _ rfl) hne
  | nop | crcInit | crcCheck | clrErr | cmdUndef | crcFeed | wr => simp at hne

theorem exec_macout {i : Instr} {s t : State} (h : exec i s = .next t) : t.macout = s.macout := by
  cases i with obtain rfl := Host.Outcome.next.inj h
  | macAssemble | macRun | macGen => exact unlessBusy_eq State.macout rfl (by simp)
  | rd a => exact ite_draw_eq State.macout _ rfl
  | nop | crcInit | crcCheck | clrErr | cmdUndef | crcFeed | wr => simp

theorem rwRegs_writer {i : Instr} {s t : State} (h : exec i s = .next t) (hne : rwRegs t ≠ rwRegs s) :
    ∃ a d, i = .wr a d ∧ isReadWriteAddress a = true := by
  cases i with obtain rfl := Host.Outcome.next.inj h
  | wr a d =>
    refine ⟨a, d, rfl, (accessOf_locate_eq_readWrite_iff a).mp ?_⟩
    by_contra hacc
    exact hne (congrArg rwRegs (writeLoc_of_not_readWrite s d _ hacc))
  | macAssemble | macRun | macGen => exact absurd (unlessBusy_eq rwRegs rfl (by simp [rwRegs])) hne
  | rd a => exact absurd (ite_draw_eq rwRegs _ rfl) hne
  | nop | crcInit | crcCheck | clrErr | cmdUndef | crcFeed => simp [rwRegs] at hne

/-- The MAC agent's turn leaves every register the host's transactions write. -/
theorem macTurn_regs (s : State) :
    (macTurn s).crc = s.crc ∧ (macTurn s).msg = s.msg ∧ rwRegs (macTurn s) = rwRegs s := by
  obtain ⟨-, h⟩ | ⟨-, h⟩ := macTurn_cases s <;> rw [h] <;> exact ⟨rfl, rfl, rfl⟩

theorem busy_of_macTurn_macout_ne {s : State} (h : (macTurn s).macout ≠ s.macout) : s.busy = true := by
  by_contra hidle
  exact h (by rw [macTurn_of_idle (by simpa using hidle)])

/-- Settles O45: a transaction writes a register only as one of its writers, and the MAC agent's turn writes MACOUT
alone. -/
theorem registersChangeOnlyByTheirWriters : Obligations.RegistersChangeOnlyByTheirWriters := by
  intro s t hnoreset h
  obtain ⟨hi, rfl⟩ | ⟨turn, rest, hi, rfl⟩ | ⟨rest, hi, rfl⟩ | ⟨w, rest, u, hi, hu, rfl⟩ := step_cases h
  · obtain ⟨hcrc, hmsg, hrw⟩ := macTurn_regs s
    exact ⟨absurd hcrc, absurd hmsg, fun hne => ⟨busy_of_macTurn_macout_ne hne, .inl hi⟩, absurd hrw⟩
  · have hreset := hnoreset ⟨true, turn⟩ (by rw [hi]; rfl)
    cases hreset
  · obtain ⟨hcrc, hmsg, hrw⟩ := macTurn_regs (setInputs rest s)
    have hbusy : (macTurn (setInputs rest s)).macout ≠ s.macout → s.busy = true :=
      busy_of_macTurn_macout_ne (s := setInputs rest s)
    exact ⟨absurd hcrc, absurd hmsg, fun hne => ⟨hbusy hne, .inr ⟨rest, hi⟩⟩, absurd hrw⟩
  · have hrwChurn : rwRegs (churnHidden u) = rwRegs u := by simp [rwRegs]
    refine ⟨fun hne => ⟨w, rest, hi, crc_writer hu (churnHidden_crc u ▸ hne)⟩,
      fun hne => ⟨w, rest, hi, msg_writer hu (churnHidden_msg u ▸ hne)⟩,
      fun hne => absurd ((churnHidden_macout u).trans (exec_macout hu)) hne, fun hne => ?_⟩
    obtain ⟨a, d, hw, ha⟩ := rwRegs_writer hu (hrwChurn ▸ hne)
    exact ⟨w, rest, a, d, hi, hw, ha⟩

/-! The step by its input (10_state.md R40). -/

theorem decodeTableWord_toNat (nbits : Nat) (w : BusWord) : decodeTableWord nbits w.toNat = some (decode w) := by
  simp [decodeTableWord, decodeNat, w.isLt, Except.toOption]

/-- Settles O47: the slot's word is decoded and run, and what follows is `churnHidden`. -/
theorem stepRunsTheDecodedTransaction : Obligations.StepRunsTheDecodedTransaction := by
  refine ⟨fun s t w rest hi ht => ?_, fun s nbits w => ⟨?_, decodeTableWord_toNat nbits w⟩⟩
  · have hexec : exec (decode w) (clearResponse (setInputs rest s)) = .next t := ht
    exact (step_host hi).trans (hostTurn_of_exec hexec)
  · rw [State.withFetchWord, BitVec.ofNat_toNat, BitVec.setWidth_eq]
    rfl

/-- Settles O56: each case of the step, with the MAC agent's turn by BUSY. -/
theorem macAgentStepsOnlyWhileBusy : Obligations.MacAgentStepsOnlyWhileBusy := by
  intro s
  refine ⟨fun rest hidle hi => ?_, fun hi hbusy => ⟨finishedHidden s.msg, ?_⟩, fun hi hidle => ?_⟩
  · rw [step_mac hi, macTurn_of_idle (s := setInputs rest s) hidle]
    rfl
  · rw [step_nil hi, macTurn_of_busy hbusy]
    rfl
  · rw [step_nil hi, macTurn_of_idle hidle]

end Sys2Proof.Machine

/-! PROOFS. The register window as a memory (20_memory.md): reads, writes that read back, writes that are ignored,
writes made twice, and that every transaction completes. -/

namespace Sys2Proof.Machine

/-! Every transaction completes (20_memory.md R66, 60_exceptions.md R200). -/

/-- A machine whose every step answers runs for any number of steps. -/
theorem run_next {M : Host.Core} (hstep : ∀ s, ∃ t, M.step s = .next t) (n : Nat) (s : M.State) :
    ∃ t, M.run n s = .next t := by
  induction n generalizing s with
  | zero => exact ⟨s, rfl⟩
  | succ n ih =>
    obtain ⟨u, hu⟩ := hstep s
    rw [run_succ_of_step hu n]
    exact ih u

/-- Settles O40: every instruction answers and so does every step, and a run is steps in a row. -/
theorem everyTransactionCompletes : Obligations.EveryTransactionCompletes :=
  ⟨exec_next, run_next (M := core) step_next⟩

/-! Reads (42_control.md R183): what a read may change, and what a later read returns. -/

/-- A read is free exactly of a MACOUT byte while BUSY = 1 (20_memory.md R64). -/
theorem readIsFree_iff (s : State) (a : Addr) :
    readIsFree s a = true ↔ s.busy = true ∧ ∃ i, locate a = .macout i := by
  rw [readIsFree_eq]
  cases locate a <;> simp

/-- A read changes at most RDATA and the count of draws (20_memory.md R65). -/
theorem sameButResponse_exec_rd {s t : State} {a : Addr} (h : exec (.rd a) s = .next t) : SameButResponse s t := by
  obtain rfl := Host.Outcome.next.inj h
  cases readIsFree s a <;> rfl

/-- RDATA and the count of draws are behind no byte of the window but a free one. -/
theorem readByte_of_sameButResponse {s t : State} (h : SameButResponse s t) {b : Addr}
    (hfree : readIsFree s b = false) : readByte t b = readByte s b := by
  rw [h, readByte, readByte]
  cases hl : locate b with
  | macout i =>
    have hidle : s.busy = false := by simpa [readIsFree_eq, hl] using hfree
    simp [readLoc, hidle]
  | _ => rfl

/-- Settles O12: what a read may change is behind no byte that is not free. -/
theorem readsLeaveTheWindowUnchanged : Obligations.ReadsLeaveTheWindowUnchanged := by
  intro s t a b h
  have hsame := sameButResponse_exec_rd h
  exact ⟨hsame, readByte_of_sameButResponse hsame⟩

/-- The MACOUT addresses, by their range (10_state.md R22). -/
theorem exists_locate_eq_macout {a : Addr} (hlo : 0xC0 ≤ a.toNat) (hhi : a.toNat ≤ 0xD3) :
    ∃ i, locate a = .macout i := by
  have haddr : BitVec.ofNat 8 (0xC0 + (a.toNat - 0xC0)) = a := by
    rw [Nat.add_sub_cancel' hlo, BitVec.ofNat_toNat, BitVec.setWidth_eq]
  exact ⟨⟨a.toNat - 0xC0, by omega⟩, locate_of_addressOf (congrArg some haddr)⟩

/-- A free read returns the free byte of its draw and uses the draw up. -/
theorem exec_rd_of_free {s : State} {a : Addr} (h : readIsFree s a = true) :
    exec (.rd a) s = .next { s with rdata := some (Config.freeByte s.draws), draws := s.draws + 1 } := by
  obtain ⟨hbusy, i, hl⟩ := (readIsFree_iff s a).mp h
  have hbyte : readByte s a = Config.freeByte s.draws := by simp [readByte, hl, readLoc, hbusy]
  rw [exec_rd, h, hbyte]
  rfl

/-- Settles O11: both reads are free, and the second finds the counter moved on. -/
theorem macoutReadWhileBusyIsAFreshDraw : Obligations.MacoutReadWhileBusyIsAFreshDraw := by
  intro s a hlo hhi hbusy
  have hmacout := exists_locate_eq_macout hlo hhi
  exact ⟨exec_rd_of_free ((readIsFree_iff s a).mpr ⟨hbusy, hmacout⟩),
    exec_rd_of_free ((readIsFree_iff _ a).mpr ⟨hbusy, hmacout⟩)⟩

theorem exec_rd_of_reserved {a : Addr} (h : locate a = .reserved) (s : State) :
    exec (.rd a) s = .next { s with rdata := some 0x00 } := by
  have hzero : readByte s a = 0x00 := by rw [readByte, h]; rfl
  rw [exec_rd_of_not_free (readIsFree_of_not_readOnly (by simp [h, accessOf]) s), hzero]

/-- Settles O10: the addresses are the write-only and the reserved ones of the map. -/
theorem writeOnlyAddressesReadZero : Obligations.WriteOnlyAddressesReadZero := by
  intro s a ha
  obtain hwo | hres := or_assoc.mpr ha
  · exact exec_rd_of_writeOnly ((accessOf_locate_eq_writeOnly_iff a).mpr hwo) s
  · exact exec_rd_of_reserved ((locate_eq_reserved_iff a).mpr hres) s

/-! Writes (42_control.md R182): the byte written, the bytes beside it, and the writes that are ignored. -/

/-- Settles O9: the five ranges are read-only in the map. -/
theorem writesToReadOnlyAddressesAreIgnored : Obligations.WritesToReadOnlyAddressesAreIgnored := by
  intro s a d ha
  have hro : accessOf (locate a) = .readOnly := by
    rw [accessOf_locate_eq_readOnly_iff]
    obtain rfl | rfl | rfl | hmsg | hmacout := ha
    · simp
    · simp
    · simp
    · omega
    · omega
  exact exec_wr_of_not_readWrite (by simp [hro]) s d

/-- The map is one to one but for the reserved addresses: each named byte is at its own address. -/
theorem addressOf_locate {a : Addr} : locate a ≠ .reserved → addressOf (locate a) = some a := by
  revert a
  decide

theorem locate_ne_of_ne {a b : Addr} (h : locate a ≠ .reserved) (hne : b ≠ a) : locate b ≠ locate a := by
  intro heq
  have hb := addressOf_locate (heq ▸ h)
  rw [heq, addressOf_locate h] at hb
  exact hne (Option.some.inj hb).symm

/-- A write to one named byte leaves the reads of all others: the two are of different fields, or of one buffer at two
indices. -/
theorem readLoc_writeLoc_of_ne {l m : Loc} (h : m ≠ l) (s : State) (d : Byte) :
    readLoc (writeLoc s d l) m = readLoc s m := by
  cases l with
  | cmd | status | crcLo | crcHi | crcDin | msg | macout | reserved => rfl
  | crcRx0 | crcRx1 | secret | serial | spad | taddrLo | taddrHi | page =>
    cases m with
    | cmd | status | crcLo | crcHi | crcDin | msg | macout | reserved => rfl
    | crcRx0 | crcRx1 | secret | serial | spad | taddrLo | taddrHi | page => grind [readLoc, writeLoc]

theorem readByte_writeByte_of_ne {a b : Addr} (h : locate a ≠ .reserved) (hne : b ≠ a) (s : State) (d : Byte) :
    readByte (writeByte s a d) b = readByte s b :=
  readLoc_writeLoc_of_ne (locate_ne_of_ne h hne) s d

/-- Settles O13: a read/write address names a byte of its own, and a WR elsewhere changes no state. -/
theorem writtenByteReadsBackAndNoOtherChanges : Obligations.WrittenByteReadsBackAndNoOtherChanges := by
  intro s a d
  refine ⟨_, exec_wr a d s, fun hrw => ?_, fun hnot b => ?_⟩
  · have hacc := (accessOf_locate_eq_readWrite_iff a).mpr hrw
    have hnamed : locate a ≠ .reserved := by
      intro hres
      simp [hres, accessOf] at hacc
    exact ⟨readLoc_writeLoc_same hacc s d, fun b hne => readByte_writeByte_of_ne hnamed hne s d⟩
  · have hacc : accessOf (locate a) ≠ .readWrite := by simp [accessOf_locate_eq_readWrite_iff, hnot]
    rw [writeByte, writeLoc_of_not_readWrite s d _ hacc]

/-! Writes made twice (20_memory.md R65; log 23). -/

theorem exec_crcFeed_of_crcPresent {s : State} (h : s.build.crcPresent = true) (d : Byte) :
    exec (.crcFeed d) s = .next (setCrc (crcStepOf s.build s.crc d) s) :=
  congrArg _ (if_pos h)

theorem exec_macGen_of_idle {s : State} (h : s.busy = false) :
    exec .macGen s = .next (startMac (assembleMsg s)) :=
  congrArg _ (if_neg (by simp [h]))

theorem exec_macGen_of_busy {s : State} (h : s.busy = true) :
    exec .macGen s = .next { s with errBusy := true } :=
  congrArg _ (if_pos h)

theorem writeLoc_writeLoc (s : State) (d : Byte) (l : Loc) : writeLoc (writeLoc s d l) d l = writeLoc s d l := by
  cases l with
  | secret i | serial i | spad i | page i => simp [writeLoc]
  | _ => rfl

/-- RX spelled out as CRC_RX1 << 8 | CRC_RX0 (10_state.md R27). -/
theorem receivedChecksum_eq (s : State) :
    receivedChecksum s = (s.crcRx1.setWidth 16 <<< 8 ||| s.crcRx0.setWidth 16 : Half) := by
  rw [receivedChecksum, BitVec.append_def, BitVec.shiftLeftZeroExtend_eq, BitVec.setWidth'_eq]

theorem checkPasses_iff (s : State) :
    checkPasses s = true ↔ s.build.crcPresent = false ∨
      ~~~s.crc = (s.crcRx1.setWidth 16 <<< 8 ||| s.crcRx0.setWidth 16 : Half) := by
  rw [← receivedChecksum_eq]
  simp [checkPasses]

/-- A CRC_CHECK of two newly received bytes compares with these. -/
theorem checkPasses_after_received (s : State) (r0 r1 : Byte) :
    checkPasses (writeByte (writeByte s 0x05 r0) 0x06 r1) = true ↔ s.build.crcPresent = false ∨
      ~~~s.crc = (r1.setWidth 16 <<< 8 ||| r0.setWidth 16 : Half) :=
  checkPasses_iff { s with crcRx0 := r0, crcRx1 := r1 }

/-- CRC_CHECK and CLR_ERR leave what CRC_CHECK compares. -/
theorem checkPasses_recordCheck (ok : Bool) (s : State) : checkPasses (recordCheck ok s) = checkPasses s := by
  simp [checkPasses, receivedChecksum]

theorem checkPasses_clearErrors (s : State) : checkPasses (clearErrors s) = checkPasses s := rfl

@[simp] theorem recordCheck_crcOk (ok : Bool) (s : State) : (recordCheck ok s).crcOk = ok := by
  cases ok <;> rfl

theorem recordCheck_recordCheck (ok : Bool) (s : State) : recordCheck ok (recordCheck ok s) = recordCheck ok s := by
  cases ok <;> rfl

theorem exec_crcCheck_twice (s : State) :
    exec .crcCheck (recordCheck (checkPasses s) s) = .next (recordCheck (checkPasses s) s) := by
  rw [exec_crcCheck, checkPasses_recordCheck, recordCheck_recordCheck]

/-- A failing check sets ERR_CRC (40_crc16.md R106). -/
theorem errCrc_of_check_fails {s : State} (h : checkPasses s = false) :
    (recordCheck (checkPasses s) s).errCrc = true := by
  rw [h]
  rfl

/-- Settles O58, by what each instruction leaves for its second run. -/
theorem writesMadeTwiceRunTwice : Obligations.WritesMadeTwiceRunTwice := by
  intro s
  refine ⟨fun d hcrc => ?_, fun hidle => ?_, fun a d _ _ => ?_, ?_⟩
  · exact ⟨_, exec_crcFeed_of_crcPresent hcrc d,
      exec_crcFeed_of_crcPresent (s := setCrc (crcStepOf s.build s.crc d) s) hcrc d⟩
  · exact ⟨_, exec_macGen_of_idle hidle, by simp, exec_macGen_of_busy rfl⟩
  · exact ⟨_, exec_wr a d s, congrArg Host.Outcome.next (writeLoc_writeLoc s d (locate a))⟩
  · refine ⟨_, exec_crcCheck s, exec_crcCheck_twice s, fun hfail => ?_, fun r0 r1 => ?_⟩
    · have hcmp : checkPasses (clearErrors (recordCheck (checkPasses s) s)) = false := by
        rw [checkPasses_clearErrors, checkPasses_recordCheck, ← hfail, recordCheck_crcOk]
      exact ⟨_, exec_clrErr _, rfl, _, exec_crcCheck _, errCrc_of_check_fails hcmp⟩
    · refine ⟨_, _, _, exec_wr 0x05 r0 _, exec_wr 0x06 r1 _, exec_crcCheck _, ?_⟩
      rw [recordCheck_crcOk, checkPasses_after_received, recordCheck_build, recordCheck_crc]

end Sys2Proof.Machine

/-! PROOFS. The encoding (30_encoding.md): the classes of words, decode against encode, the undefined command codes,
the instructions that no word stands for, and what a host that keeps its duties cannot raise. -/

namespace Sys2Proof.Machine

/-! The fields of a word (30_encoding.md R80). -/

theorem exists_eq_busWord (w : BusWord) : ∃ we a d, w = busWord we a d :=
  ⟨_, _, _, (busWord_of_fields w).symm⟩

theorem getLsbD_busWord (we : Bool) (a : Addr) (d : Byte) : (busWord we a d).getLsbD 16 = we :=
  we_busWord we a d

theorem extractLsb'_addr_busWord (we : Bool) (a : Addr) (d : Byte) : (busWord we a d).extractLsb' 8 8 = a :=
  addr_busWord we a d

theorem extractLsb'_data_busWord (we : Bool) (a : Addr) (d : Byte) : (busWord we a d).extractLsb' 0 8 = d :=
  data_busWord we a d

/-- The mask 0x1FF00 is the word whose DATA alone is 0, and masks each field apart. -/
theorem busWord_and_mask (we : Bool) (a : Addr) (d : Byte) : busWord we a d &&& 0x1FF00 = busWord we a 0x00 := by
  have hmask : (0x1FF00 : BusWord) = BitVec.ofBool true ++ BitVec.allOnes 8 ++ 0#8 := rfl
  rw [hmask, busWord, BitVec.and_append, BitVec.and_append, BitVec.ofBool_and_ofBool, Bool.and_true,
    BitVec.and_allOnes, BitVec.and_zero]
  rfl

theorem toNat_busWord (we : Bool) (a : Addr) (d : Byte) :
    (busWord we a d).toNat = 0x10000 * we.toNat + 0x100 * a.toNat + d.toNat := by
  have ha := a.isLt
  have hd := d.isLt
  rw [busWord, BitVec.toNat_append, BitVec.toNat_append, BitVec.toNat_ofBool, ← Nat.shiftLeft_add_eq_or_of_lt ha,
    ← Nat.shiftLeft_add_eq_or_of_lt hd, Nat.shiftLeft_eq, Nat.shiftLeft_eq]
  omega

theorem ofNat_eq_busWord {n : Nat} {we : Bool} {a : Addr} {d : Byte}
    (h : n = 0x10000 * we.toNat + 0x100 * a.toNat + d.toNat) : BitVec.ofNat 17 n = busWord we a d := by
  rw [h, ← toNat_busWord, BitVec.ofNat_toNat, BitVec.setWidth_eq]

/-! The classes of words (30_encoding.md R82) and of command codes (R83, R85). -/

/-- Every word is a read, a command, a feed or a write to another address. -/
theorem busWord_cases (w : BusWord) :
    (∃ a x, w = busWord false a x) ∨ (∃ c, w = busWord true 0x00 c) ∨ (∃ d, w = busWord true 0x04 d) ∨
    (∃ a d, a ≠ 0x00 ∧ a ≠ 0x04 ∧ w = busWord true a d) := by
  obtain ⟨we, a, d, rfl⟩ := exists_eq_busWord w
  cases we with
  | false => exact .inl ⟨a, d, rfl⟩
  | true =>
    by_cases h0 : a = 0x00
    · exact .inr (.inl ⟨d, by rw [h0]⟩)
    · by_cases h4 : a = 0x04
      · exact .inr (.inr (.inl ⟨d, by rw [h4]⟩))
      · exact .inr (.inr (.inr ⟨a, d, h0, h4, rfl⟩))

theorem decodeCommand_of_undefined {c : Byte} (h : c ∉ definedCodes) : decodeCommand c = .cmdUndef c := by
  simp only [definedCodes, List.mem_cons, not_or] at h
  simp only [decodeCommand, h, if_false]

theorem encode_decodeCommand (c : Byte) : encode (decodeCommand c) = busWord true 0x00 c := by
  by_cases hc : c ∈ definedCodes
  · have hdefined : ∀ c ∈ definedCodes, encode (decodeCommand c) = busWord true 0x00 c := by decide
    exact hdefined c hc
  · rw [decodeCommand_of_undefined hc]
    rfl

theorem wellFormed_cmdUndef_iff (c : Byte) : (Instr.cmdUndef c).WellFormed ↔ c ∉ definedCodes := by
  simp [Instr.WellFormed, Instr.wf]

theorem wellFormed_wr_iff (a : Addr) (d : Byte) : (Instr.wr a d).WellFormed ↔ a ≠ 0x00 ∧ a ≠ 0x04 := by
  simp [Instr.WellFormed, Instr.wf]

theorem wellFormed_decodeCommand (c : Byte) : (decodeCommand c).WellFormed := by
  by_cases hc : c ∈ definedCodes
  · have hdefined : ∀ c ∈ definedCodes, (decodeCommand c).WellFormed := by decide
    exact hdefined c hc
  · rw [decodeCommand_of_undefined hc, wellFormed_cmdUndef_iff]
    exact hc

/-- The undefined codes, by range (30_encoding.md R85). -/
theorem not_mem_definedCodes_iff (c : Byte) :
    c ∉ definedCodes ↔ (0x04 ≤ c.toNat ∧ c.toNat ≤ 0x0F) ∨ 0x13 ≤ c.toNat := by
  revert c
  decide

/-! Decode against encode (30_encoding.md R80, R86). -/

/-- Settles O3: the word of each instruction is of the class that decode gives it back from; being well-formed keeps WR
off CMD and CRC_DIN, and the undefined commands off the seven codes. -/
theorem decodeOfEncodeIsTheInstruction : Obligations.DecodeOfEncodeIsTheInstruction := by
  intro i hwf
  cases i with
  | nop | crcInit | crcCheck | clrErr | macAssemble | macRun | macGen => exact decode_command _
  | cmdUndef c => exact (decode_command c).trans (decodeCommand_of_undefined ((wellFormed_cmdUndef_iff c).mp hwf))
  | crcFeed d => exact decode_feed d
  | wr a d =>
    obtain ⟨h0, h4⟩ := (wellFormed_wr_iff a d).mp hwf
    exact decode_write a d h0 h4
  | rd a => exact decode_read a 0x00

/-- Settles O4: each class of words is the image of its instructions, but for the DATA of a read. -/
theorem encodeOfDecodeIsTheCanonicalWord : Obligations.EncodeOfDecodeIsTheCanonicalWord := by
  intro w
  obtain ⟨a, x, rfl⟩ | ⟨c, rfl⟩ | ⟨d, rfl⟩ | ⟨a, d, h0, h4, rfl⟩ := busWord_cases w
  · rw [decode_read, getLsbD_busWord, busWord_and_mask]
    rfl
  · rw [decode_command, encode_decodeCommand, getLsbD_busWord, if_pos rfl]
  · rw [decode_feed, getLsbD_busWord, if_pos rfl]
    rfl
  · rw [decode_write a d h0 h4, getLsbD_busWord, if_pos rfl]
    rfl

/-- Settles O5: the classes of words leave no other instruction. -/
theorem decodedInstructionsAreWellFormed : Obligations.DecodedInstructionsAreWellFormed := by
  intro w
  obtain ⟨a, x, rfl⟩ | ⟨c, rfl⟩ | ⟨d, rfl⟩ | ⟨a, d, h0, h4, rfl⟩ := busWord_cases w
  · rw [decode_read]
    rfl
  · rw [decode_command]
    exact wellFormed_decodeCommand c
  · rw [decode_feed]
    rfl
  · rw [decode_write a d h0 h4]
    exact (wellFormed_wr_iff a d).mpr ⟨h0, h4⟩

/-! The duties of the host (30_encoding.md R85, 70_reset_and_hazards.md R233, R234; log 16). -/

/-- Of the flags, a MAC command sets ERR_BUSY alone, and only when it is dropped (41_mac.md R144). -/
theorem errorFlag_unlessBusy {f : State → State} {s : State} {e : ErrorCondition}
    (haccepted : errorFlag (f s) e = errorFlag s e) (hset : errorFlag (unlessBusy f s) e = true) :
    errorFlag s e = true ∨ (e = .busy ∧ s.busy = true) := by
  obtain ⟨hbusy, h⟩ | ⟨-, h⟩ := unlessBusy_cases f s <;> rw [h] at hset
  · cases e with
    | crc | cmd => exact .inl hset
    | busy => exact .inr ⟨rfl, hbusy⟩
  · exact .inl (haccepted ▸ hset)

theorem checkPasses_eq_false_iff (s : State) :
    checkPasses s = false ↔ s.build.crcPresent = true ∧
      ~~~s.crc ≠ (s.crcRx1.setWidth 16 <<< 8 ||| s.crcRx0.setWidth 16 : Half) := by
  rw [← Bool.not_eq_true, checkPasses_iff, not_or, Bool.not_eq_false]

/-- Of the flags, a CRC_CHECK sets ERR_CRC alone, and only when it fails (40_crc16.md R106). -/
theorem errorFlag_recordCheck {ok : Bool} {s : State} {e : ErrorCondition}
    (hset : errorFlag (recordCheck ok s) e = true) : errorFlag s e = true ∨ (e = .crc ∧ ok = false) := by
  obtain ⟨-, h⟩ | ⟨hfail, h⟩ := recordCheck_cases ok s <;> rw [h] at hset
  · exact .inl (by cases e <;> exact hset)
  · cases e with
    | crc => exact .inr ⟨rfl, hfail⟩
    | cmd | busy => exact .inl hset

/-- An error flag that is set after an instruction was set before it, or the instruction is its cause
(60_exceptions.md R201). -/
theorem errorFlag_exec {i : Instr} {s t : State} {e : ErrorCondition} (h : exec i s = .next t)
    (hset : errorFlag t e = true) : errorFlag s e = true ∨ ErrorCause s i e := by
  cases i with obtain rfl := Host.Outcome.next.inj h
  | macAssemble | macRun | macGen =>
    obtain hs | ⟨rfl, hbusy⟩ := errorFlag_unlessBusy (by cases e <;> simp [errorFlag]) hset
    · exact .inl hs
    · exact .inr ⟨by simp, hbusy⟩
  | crcCheck =>
    obtain hs | ⟨rfl, hfail⟩ := errorFlag_recordCheck hset
    · exact .inl hs
    · exact .inr ⟨rfl, (checkPasses_eq_false_iff s).mp hfail⟩
  | cmdUndef c =>
    cases e with
    | cmd => exact .inr ⟨c, rfl⟩
    | crc | busy => exact .inl hset
  | clrErr => cases e <;> cases hset
  | rd a => exact .inl (ite_draw_eq (fun u => errorFlag u e) _ rfl ▸ hset)
  | nop => exact .inl hset
  | crcInit | crcFeed | wr => exact .inl (by cases e <;> simpa [errorFlag] using hset)

/-- Only a free read uses up a draw (20_memory.md R64; log 4). -/
theorem draws_writer {i : Instr} {s t : State} (h : exec i s = .next t) (hne : t.draws ≠ s.draws) :
    ∃ a, i = .rd a ∧ readIsFree s a = true := by
  cases i with obtain rfl := Host.Outcome.next.inj h
  | rd a =>
    refine ⟨a, rfl, ?_⟩
    by_contra hfree
    exact hne (by rw [if_neg hfree, respond_draws])
  | macAssemble | macRun | macGen => exact absurd (unlessBusy_eq State.draws rfl (by simp)) hne
  | nop | crcInit | crcCheck | clrErr | cmdUndef | crcFeed | wr => simp at hne

/-- A transaction that keeps the duties causes no error but a failed check. -/
theorem HostDuty.not_errorCause {s : State} {i : Instr} {e : ErrorCondition} (hduty : HostDuty s i) (he : e ≠ .crc) :
    ¬ ErrorCause s i e := by
  intro hcause
  cases e with
  | crc => exact he rfl
  | cmd =>
    obtain ⟨c, rfl⟩ := hcause
    exact hduty
  | busy =>
    obtain ⟨rfl | rfl | rfl, hbusy⟩ := hcause <;> exact Bool.false_ne_true (hduty.symm.trans hbusy)

/-- Settles O46: a flag that rises has its cause and a draw its free read, and the duties forbid the two causes and the
read. -/
theorem hostThatKeepsItsDutiesRaisesNoErrCmdOrErrBusy :
    Obligations.HostThatKeepsItsDutiesRaisesNoErrCmdOrErrBusy := by
  refine ⟨fun i s t hduty h => ⟨fun hset => ?_, fun hset => ?_, ?_⟩, fun s c hduty => hduty⟩
  · exact (errorFlag_exec (e := .cmd) h hset).resolve_right (hduty.not_errorCause (by decide))
  · exact (errorFlag_exec (e := .busy) h hset).resolve_right (hduty.not_errorCause (by decide))
  · by_contra hne
    obtain ⟨a, rfl, hfree⟩ := draws_writer h hne
    obtain ⟨-, hnotFree⟩ := hduty
    exact Bool.false_ne_true (hnotFree.symm.trans hfree)

/-! The tables of the spec (30_encoding.md R82, R83, R85). -/

/-- Settles O1: each clause is the class of words that its fields name. -/
theorem decodeFollowsTheOrderOfTheSpec : Obligations.DecodeFollowsTheOrderOfTheSpec := by
  intro w
  obtain ⟨we, a, d, rfl⟩ := exists_eq_busWord w
  rw [getLsbD_busWord, extractLsb'_addr_busWord, extractLsb'_data_busWord]
  refine ⟨?_, ?_, ?_, ?_⟩
  · rintro rfl
    exact decode_read a d
  · rintro rfl rfl
    rw [decode_command]
    exact ⟨congrArg decodeCommand, congrArg decodeCommand, congrArg decodeCommand, congrArg decodeCommand,
      congrArg decodeCommand, congrArg decodeCommand, congrArg decodeCommand, decodeCommand_of_undefined⟩
  · rintro rfl rfl
    exact decode_feed d
  · rintro rfl
    exact decode_write a d

/-- Settles O2: each number is the word of its three fields. -/
theorem wordsOfTheCommandTableDecode : Obligations.WordsOfTheCommandTableDecode := by
  refine ⟨decode_command 0x00, decode_command 0x01, decode_command 0x02, decode_command 0x03, decode_command 0x10,
    decode_command 0x11, decode_command 0x12, fun d => ?_, fun a d h0 h4 => ?_, fun a x => ?_, fun a => ?_⟩
  · exact (congrArg decode (ofNat_eq_busWord (we := true) (a := 0x04) rfl)).trans (decode_feed d)
  · exact (congrArg decode (ofNat_eq_busWord (we := true) rfl)).trans (decode_write a d h0 h4)
  · exact (congrArg decode (ofNat_eq_busWord (we := false) (by simp))).trans (decode_read a x)
  · exact (ofNat_eq_busWord (we := false) (by simp)).symm

/-- Settles O16: the two ranges are the codes not in the table of R83, and 249 of the 256 bytes are in them. -/
theorem undefinedCodeSetsErrCmdOnly : Obligations.UndefinedCodeSetsErrCmdOnly := by
  refine ⟨not_mem_definedCodes_iff, by decide +kernel, fun c hc => ?_, fun s c _ => exec_cmdUndef c s⟩
  rw [decode_command, decodeCommand_of_undefined ((not_mem_definedCodes_iff c).mpr hc)]

/-- Settles O57: an ill-formed WR addresses a write-only byte, an undefined command runs alike with any code, and decode
gives well-formed instructions only. -/
theorem instructionsNoWordStandsForAreHarmless : Obligations.InstructionsNoWordStandsForAreHarmless := by
  intro s i hill
  refine ⟨?_, ?_, ?_⟩
  · rintro a d rfl
    rw [wellFormed_wr_iff, not_and_or, not_ne_iff, not_ne_iff] at hill
    have hwo := (accessOf_locate_eq_writeOnly_iff a).mpr hill
    exact exec_wr_of_not_readWrite (by simp [hwo]) s d
  · rintro c rfl
    exact exec_cmdUndef c s
  · rintro w rfl
    exact hill (decodedInstructionsAreWellFormed w)

end Sys2Proof.Machine

/-! PROOFS. The CRC unit (40_crc16.md): the default CRC_STEP as a linear shift register, the CRC of a byte sequence, the
CRC commands and their flags, the accumulator along a run, the residue, and what one changed byte does. -/

namespace Sys2Proof.Machine

/-! Words put together from parts. -/

theorem append_eq_shiftLeft_or {n m : Nat} (x : BitVec n) (y : BitVec m) :
    x ++ y = x.setWidth (n + m) <<< m ||| y.setWidth (n + m) := by
  rw [BitVec.append_def, BitVec.shiftLeftZeroExtend_eq, BitVec.setWidth'_eq]

theorem setWidth_eq_zero_append (v : Byte) : v.setWidth 16 = 0#8 ++ v :=
  BitVec.setWidth_eq_append (by decide)

theorem append_inj_iff {a b c d : Byte} : a ++ b = c ++ d ↔ a = c ∧ b = d := by
  refine ⟨fun h => ⟨?_, ?_⟩, fun ⟨hhigh, hlow⟩ => by rw [hhigh, hlow]⟩
  · simpa only [BitVec.extractLsb'_append_eq_left] using congrArg (BitVec.extractLsb' 8 8) h
  · simpa only [BitVec.setWidth_append_eq_right] using congrArg (BitVec.setWidth 8) h

/-! The shift register (40_crc16.md R100): one bit of CRC_STEP is linear and one to one. -/

theorem crcStepBits_succ (n : Nat) (c : Half) : crcStepBits (n + 1) c = crcStepBit (crcStepBits n c) := by
  induction n generalizing c with
  | zero => rfl
  | succ n ih => exact ih (crcStepBit c)

theorem crcStepBit_xor (x y : Half) : crcStepBit (x ^^^ y) = crcStepBit x ^^^ crcStepBit y := by
  simp only [crcStepBit, BitVec.getLsbD_xor, BitVec.ushiftRight_xor_distrib]
  cases x.getLsbD 0 <;> cases y.getLsbD 0
  · rfl
  · exact BitVec.xor_assoc _ _ _
  · have hmove : x >>> 1 ^^^ y >>> 1 ^^^ 0xA001 = (x >>> 1 ^^^ 0xA001) ^^^ y >>> 1 := by ac_rfl
    exact hmove
  · have hmove : (x >>> 1 ^^^ 0xA001) ^^^ (y >>> 1 ^^^ 0xA001) = x >>> 1 ^^^ y >>> 1 ^^^ (0xA001 ^^^ 0xA001) := by
      ac_rfl
    rw [BitVec.xor_self, BitVec.xor_zero] at hmove
    exact hmove.symm

theorem crcStepBits_xor (n : Nat) (x y : Half) : crcStepBits n (x ^^^ y) = crcStepBits n x ^^^ crcStepBits n y := by
  induction n with
  | zero => rfl
  | succ n ih => rw [crcStepBits_succ, crcStepBits_succ, crcStepBits_succ, ih, crcStepBit_xor]

/-- The bit shifted out comes in again at the top: 0xA001 has bit 15, and the shift leaves it 0. -/
theorem getLsbD_crcStepBit_top (c : Half) : (crcStepBit c).getLsbD 15 = c.getLsbD 0 := by
  unfold crcStepBit
  split <;> simp_all

theorem crcStepBit_injective : Function.Injective crcStepBit := by
  intro x y h
  have hlow : x.getLsbD 0 = y.getLsbD 0 := by
    rw [← getLsbD_crcStepBit_top, h, getLsbD_crcStepBit_top]
  have hshift : x >>> 1 = y >>> 1 := by
    unfold crcStepBit at h
    rw [hlow] at h
    split at h
    · exact (BitVec.xor_left_inj _).mp h
    · exact h
  refine BitVec.eq_of_getLsbD_eq fun i _ => ?_
  cases i with
  | zero => exact hlow
  | succ i => simpa [Nat.add_comm] using congrArg (BitVec.getLsbD · i) hshift

theorem crcStepBits_injective (n : Nat) : Function.Injective (crcStepBits n) := by
  induction n with
  | zero => exact Function.injective_id
  | succ n ih => exact ih.comp crcStepBit_injective

/-- No bit shifted out is 1: CRC_STEP only shifts. -/
theorem crcStepBits_of_low_zero {n : Nat} {c : Half} (h : ∀ i < n, c.getLsbD i = false) :
    crcStepBits n c = c >>> n := by
  induction n generalizing c with
  | zero => simp [crcStepBits]
  | succ n ih =>
    have hbit : crcStepBit c = c >>> 1 := if_neg (Bool.eq_false_iff.mp (h 0 n.succ_pos))
    have hshifted : ∀ i < n, (c >>> 1).getLsbD i = false := fun i hi => by
      rw [BitVec.getLsbD_ushiftRight]
      exact h (1 + i) (by omega)
    rw [crcStepBits, hbit, ih hshifted, ← BitVec.shiftRight_add, Nat.add_comm]

/-- A high byte over a zero byte comes down unchanged in eight shifts. -/
theorem crcStepBits_high_byte (v : Byte) : crcStepBits 8 (v ++ 0#8) = 0#8 ++ v := by
  have hlow : ∀ i < 8, (v ++ 0#8).getLsbD i = false := by
    intro i hi
    rw [BitVec.getLsbD_append]
    simp [hi]
  rw [crcStepBits_of_low_zero hlow]
  refine BitVec.eq_of_toNat_eq ?_
  rw [BitVec.toNat_ushiftRight, BitVec.toNat_append, BitVec.toNat_append]
  simp [Nat.shiftLeft_shiftRight]

/-- Two bytes fed are sixteen shifts of the accumulator XORed with the two, the first one low: the second may go in
before the first eight shifts, as a high byte. -/
theorem crcStepDefault_crcStepDefault (c : Half) (r0 r1 : Byte) :
    crcStepDefault (crcStepDefault c r0) r1 = crcStepBits 8 (crcStepBits 8 (c ^^^ (r1 ++ r0))) := by
  have hsplit : r1 ++ r0 = (0#8 ++ r0) ^^^ (r1 ++ 0#8) := by
    rw [BitVec.xor_append, BitVec.zero_xor, BitVec.xor_zero]
  calc crcStepDefault (crcStepDefault c r0) r1
      = crcStepBits 8 (crcStepBits 8 (c ^^^ (0#8 ++ r0)) ^^^ (0#8 ++ r1)) := by
        rw [← setWidth_eq_zero_append, ← setWidth_eq_zero_append]
        rfl
    _ = crcStepBits 8 (crcStepBits 8 (c ^^^ (r1 ++ r0))) := by
        rw [← crcStepBits_high_byte r1, ← crcStepBits_xor, BitVec.xor_assoc, hsplit]

theorem crcStepDefault_left_injective (v : Byte) : Function.Injective (crcStepDefault · v) :=
  fun _ _ h => (BitVec.xor_left_inj _).mp (crcStepBits_injective 8 h)

theorem crcStepDefault_right_injective (c : Half) : Function.Injective (crcStepDefault c) := by
  intro v w h
  have hext : v.setWidth 16 = w.setWidth 16 := (BitVec.xor_right_inj _).mp (crcStepBits_injective 8 h)
  rw [setWidth_eq_zero_append, setWidth_eq_zero_append] at hext
  exact (BitVec.append_right_inj _).mp hext

/-- Settles O19: the sequence is the register after each of its shifts. -/
theorem defaultCrcStepShiftsEightTimes : Obligations.DefaultCrcStepShiftsEightTimes := by
  intro b hb c v
  exact ⟨fun n => crcStepBits n (c ^^^ v.setWidth 16), rfl, fun i _ => crcStepBits_succ i _, crcStepOf_default hb c v⟩

/-! The CRC of a byte sequence (40_crc16.md R101). -/

theorem crcFold_cons (b : Config.Build) (c : Half) (v : Byte) (bs : List Byte) :
    crcFold b c (v :: bs) = crcFold b (crcStepOf b c v) bs := rfl

theorem crc16_append (b : Config.Build) (xs ys : List Byte) : crc16 b (xs ++ ys) = crcFold b (crc16 b xs) ys :=
  crcFold_append b 0x0000 xs ys

/-- Settles O21: both are the fold, over no bytes and over one more byte. -/
theorem crcOfASequenceFoldsCrcStep : Obligations.CrcOfASequenceFoldsCrcStep :=
  fun b => ⟨rfl, fun bs v => crc16_append b bs [v]⟩

theorem crcFold_left_injective {b : Config.Build} (hb : b.crcStepTable = []) (bs : List Byte) :
    Function.Injective (crcFold b · bs) := by
  induction bs with
  | nil => exact Function.injective_id
  | cons v bs ih =>
    intro c c' h
    have hstep : crcStepOf b c v = crcStepOf b c' v := ih h
    rw [crcStepOf_default hb, crcStepOf_default hb] at hstep
    exact crcStepDefault_left_injective v hstep

/-- One changed byte changes the CRC, whatever stands before and after it. -/
theorem crc16_ne_of_byte_ne {b : Config.Build} (hb : b.crcStepTable = []) {v w : Byte} (h : v ≠ w)
    (before after : List Byte) : crc16 b (before ++ v :: after) ≠ crc16 b (before ++ w :: after) := by
  rw [crc16_append, crc16_append, crcFold_cons, crcFold_cons, crcStepOf_default hb, crcStepOf_default hb]
  exact fun heq => h (crcStepDefault_right_injective _ (crcFold_left_injective hb after heq))

/-! The commands of the CRC unit (40_crc16.md R103, R104, R106). -/

theorem feedWord_eq_busWord (d : Byte) : 0x10400 ||| d.setWidth 17 = busWord true 0x04 d := by
  rw [busWord, append_eq_shiftLeft_or]
  rfl

theorem storeCrc_of_crcPresent {s : State} (h : s.build.crcPresent = true) (c : Half) :
    storeCrc c s = { s with crc := c } :=
  if_pos h

theorem storeCrc_of_not_crcPresent {s : State} (h : s.build.crcPresent = false) (c : Half) : storeCrc c s = s :=
  if_neg (by simp [h])

theorem exec_crcFeed_of_crcStepDefault {s : State} {d : Byte} {x : Half} (hcrc : s.build.crcPresent = true)
    (htable : s.build.crcStepTable = []) (hx : crcStepDefault s.crc d = x) :
    exec (.crcFeed d) s = .next { s with crc := x } := by
  rw [exec_crcFeed_of_crcPresent hcrc, crcStepOf_default htable, hx]
  rfl

/-- Settles O22: CRC_FEED stores CRC_STEP, and the two bytes of the example are CRC_STEP of the default. -/
theorem crcFeedStepsTheAccumulator : Obligations.CrcFeedStepsTheAccumulator := by
  refine ⟨fun d => ?_, fun s d => ⟨fun hcrc => ?_, fun hcrc => ?_⟩, fun s hcrc htable hzero => ⟨?_, ?_⟩⟩
  · rw [feedWord_eq_busWord, decode_feed]
  · exact exec_crcFeed_of_crcPresent hcrc d
  · rw [exec_crcFeed, storeCrc_of_not_crcPresent hcrc]
  · have hstep : crcStepDefault s.crc 0x00 = s.crc := by
      rw [hzero]
      rfl
    exact exec_crcFeed_of_crcStepDefault hcrc htable hstep
  · have hstep : crcStepDefault s.crc 0x01 = 0xC0C1 := by
      rw [hzero]
      rfl
    exact exec_crcFeed_of_crcStepDefault hcrc htable hstep

theorem exec_crcInit_of_crcPresent {s : State} (h : s.build.crcPresent = true) :
    exec .crcInit s = .next { s with crc := 0x0000, crcChecked := false, crcOk := false } := by
  rw [exec_crcInit, storeCrc_of_crcPresent h]
  rfl

/-- STATUS bit 7 is CRC_PRESENT (10_state.md R24). -/
theorem crcPresent_of_statusByte {s : State} {v : Byte} (h : statusByte s = v) :
    s.build.crcPresent = v.getLsbD 7 := by
  obtain ⟨-, -, -, -, -, -, -, hbit⟩ := statusReadsItsEightFields s
  rw [← h, hbit]

/-- CRC_CHECKED and CRC_OK are bits 2 and 3 of STATUS (10_state.md R24). -/
theorem statusByte_clearCheck (s : State) : statusByte (clearCheck s) = statusByte s &&& 0xF3 := by
  have hmask : (0xF3 : Byte) = BitVec.ofBool true ++ BitVec.ofBool true ++ BitVec.ofBool true ++ BitVec.ofBool true
    ++ BitVec.ofBool false ++ BitVec.ofBool false ++ BitVec.ofBool true ++ BitVec.ofBool true := rfl
  rw [hmask, statusByte, statusByte]
  iterate 7 rw [BitVec.and_append]
  simp only [BitVec.ofBool_and_ofBool, Bool.and_true, Bool.and_false]
  rfl

theorem statusByte_recordCheck_true (s : State) : statusByte (recordCheck true s) = statusByte s ||| 0x0C := by
  have hmask : (0x0C : Byte) = BitVec.ofBool false ++ BitVec.ofBool false ++ BitVec.ofBool false ++ BitVec.ofBool false
    ++ BitVec.ofBool true ++ BitVec.ofBool true ++ BitVec.ofBool false ++ BitVec.ofBool false := rfl
  rw [hmask, statusByte, statusByte]
  iterate 7 rw [BitVec.or_append]
  simp only [BitVec.ofBool_or_ofBool, Bool.or_true, Bool.or_false]
  rfl

/-- Settles O23: CRC_INIT stores the seed and clears the two flags; bit 7 of the example's STATUS says that there is a
CRC unit. -/
theorem crcInitStartsAnAccumulation : Obligations.CrcInitStartsAnAccumulation := by
  refine ⟨decode_command 0x01, fun s => ⟨exec_crcInit_of_crcPresent, fun hcrc => ?_⟩, fun s _ hstatus => ?_⟩
  · rw [exec_crcInit, storeCrc_of_not_crcPresent hcrc]
    rfl
  · have hcrc : s.build.crcPresent = true := crcPresent_of_statusByte hstatus
    refine ⟨_, exec_crcInit s, ?_, ?_⟩
    · rw [storeCrc_of_crcPresent hcrc]
      rfl
    · rw [statusByte_clearCheck, statusByte_storeCrc, hstatus]
      rfl

theorem exec_crcCheck_of_passes {s : State} (h : checkPasses s = true) :
    exec .crcCheck s = .next { s with crcChecked := true, crcOk := true } := by
  rw [exec_crcCheck, h]
  rfl

theorem exec_crcCheck_of_fails {s : State} (h : checkPasses s = false) :
    exec .crcCheck s = .next { s with crcChecked := true, crcOk := false, errCrc := true } := by
  rw [exec_crcCheck, h]
  rfl

theorem crcOk_of_exec_crcCheck_iff (s : State) :
    (∃ t, exec .crcCheck s = .next t ∧ t.crcOk = true) ↔ checkPasses s = true := by
  simp

/-- From the seed the comparison is with 0xFFFF (40_crc16.md R106). -/
theorem checkPasses_of_seed_iff {s : State} (hcrc : s.build.crcPresent = true) (hseed : s.crc = 0x0000) :
    checkPasses s = true ↔ s.crcRx0 = 0xFF ∧ s.crcRx1 = 0xFF := by
  have hcmp : checkPasses s = true ↔ ~~~s.crc = s.crcRx1 ++ s.crcRx0 := by simp [checkPasses, receivedChecksum, hcrc]
  have hones : ~~~s.crc = (0xFF : Byte) ++ (0xFF : Byte) := by
    rw [hseed]
    rfl
  rw [hcmp, hones, append_inj_iff, and_comm, eq_comm, eq_comm (a := s.crcRx1)]

/-- Settles O24: the outcome of the comparison decides the flags, and a pass sets bits 2 and 3 of STATUS. -/
theorem crcCheckComparesTheComplement : Obligations.CrcCheckComparesTheComplement := by
  refine ⟨decode_command 0x02, fun s => ⟨fun hcrc => ?_, fun hcrc => ⟨fun heq => ?_, fun hne => ?_⟩⟩,
    fun s hcrc hseed => ?_, fun s hacc hrx0 hrx1 hstatus => ⟨fun htable => ?_, ?_⟩⟩
  · exact exec_crcCheck_of_passes ((checkPasses_iff s).mpr (.inl hcrc))
  · exact exec_crcCheck_of_passes ((checkPasses_iff s).mpr (.inr heq))
  · exact exec_crcCheck_of_fails ((checkPasses_eq_false_iff s).mpr ⟨hcrc, hne⟩)
  · rw [crcOk_of_exec_crcCheck_iff, checkPasses_of_seed_iff hcrc hseed]
  · have hdefault : crcStepOf s.build = crcStepDefault := funext₂ (crcStepOf_default htable)
    rw [hacc, crc16, crcFold, hdefault]
    decide +kernel
  · have hpass : checkPasses s = true := by
      rw [checkPasses_iff, hacc, hrx0, hrx1]
      exact .inr rfl
    refine ⟨_, exec_crcCheck s, ?_, ?_, ?_⟩
    · rw [hpass]
      rfl
    · rw [recordCheck_crcOk, hpass]
    · rw [hpass, statusByte_recordCheck_true, hstatus]
      rfl

/-! The accumulator along a run (40_crc16.md R102). -/

theorem fedAfter_host_crcInit {w : BusWord} (h : decode w = .crcInit) (fed : List Byte) :
    fedAfter ⟨false, .host w⟩ fed = [] := by
  simp [fedAfter, h]

theorem fedAfter_host_crcFeed {w : BusWord} {d : Byte} (h : decode w = .crcFeed d) (fed : List Byte) :
    fedAfter ⟨false, .host w⟩ fed = fed ++ [d] := by
  simp [fedAfter, h]

theorem fedAfter_host_other {w : BusWord} (hinit : decode w ≠ .crcInit) (hfeed : ∀ d, decode w ≠ .crcFeed d)
    (fed : List Byte) : fedAfter ⟨false, .host w⟩ fed = fed := by
  cases h : decode w with
  | crcInit => exact absurd h hinit
  | crcFeed d => exact absurd h (hfeed d)
  | _ => simp [fedAfter, h]

/-- A transaction keeps the accumulator the CRC of the bytes fed: CRC_INIT and CRC_FEED are its only writers. -/
theorem exec_crc_eq_crc16 {w : BusWord} {s t : State} {fed : List Byte} (hcrc : s.build.crcPresent = true)
    (hfed : s.crc = crc16 s.build fed) (h : exec (decode w) s = .next t) :
    t.crc = crc16 s.build (fedAfter ⟨false, .host w⟩ fed) := by
  by_cases hinit : decode w = .crcInit
  · rw [hinit, exec_crcInit_of_crcPresent hcrc] at h
    obtain rfl := Host.Outcome.next.inj h
    rw [fedAfter_host_crcInit hinit]
    rfl
  · by_cases hfeed : ∃ d, decode w = .crcFeed d
    · obtain ⟨d, hd⟩ := hfeed
      rw [hd, exec_crcFeed_of_crcPresent hcrc] at h
      obtain rfl := Host.Outcome.next.inj h
      rw [fedAfter_host_crcFeed hd, crc16_append, setCrc_crc, hfed]
      rfl
    · have hkeep : t.crc = s.crc := by
        by_contra hne
        exact (crc_writer h hne).elim hinit hfeed
      rw [fedAfter_host_other hinit (not_exists.mp hfeed), hkeep, hfed]

theorem exec_inputs {i : Instr} {s t : State} (h : exec i s = .next t) : t.inputs = s.inputs := by
  cases i with obtain rfl := Host.Outcome.next.inj h
  | macAssemble | macRun | macGen => exact unlessBusy_eq State.inputs rfl (by simp)
  | rd a => exact ite_draw_eq State.inputs _ rfl
  | nop | crcInit | crcCheck | clrErr | cmdUndef | crcFeed | wr => simp

theorem macTurn_inputs (s : State) : (macTurn s).inputs = s.inputs := by
  obtain ⟨-, h⟩ | ⟨-, h⟩ := macTurn_cases s <;> rw [h]
  rfl

/-- One slot keeps the accumulator the CRC of the bytes fed, and is used up. -/
theorem step_crc_eq_crc16 {s : State} {slot : Slot} {rest : List Slot} {fed : List Byte}
    (hcrc : s.build.crcPresent = true) (hi : s.inputs = slot :: rest) (hfed : s.crc = crc16 s.build fed) :
    ∃ t, step s = .next t ∧ t.inputs = rest ∧ t.crc = crc16 s.build (fedAfter slot fed) := by
  obtain ⟨reset, turn⟩ := slot
  cases reset with
  | true => exact ⟨_, step_reset hi, rfl, rfl⟩
  | false =>
    cases turn with
    | mac =>
      obtain ⟨hkeep, -, -⟩ := macTurn_regs (setInputs rest s)
      exact ⟨_, step_mac hi, macTurn_inputs _, hkeep.trans hfed⟩
    | host w =>
      obtain ⟨u, hu⟩ := exec_next (decode w) (clearResponse (setInputs rest s))
      refine ⟨_, (step_host hi).trans (hostTurn_of_exec hu), ?_, ?_⟩
      · rw [churnHidden_inputs, exec_inputs hu]
        rfl
      · rw [churnHidden_crc]
        exact exec_crc_eq_crc16 (s := clearResponse (setInputs rest s)) hcrc hfed hu

/-- Settles O27, by induction on the slots: each is a step that keeps the relation and the build. -/
theorem accumulatorIsTheCrcOfTheBytesFed : Obligations.AccumulatorIsTheCrcOfTheBytesFed := by
  intro slots rest
  induction slots with
  | nil =>
    intro s fed _ hi hfed
    exact ⟨s, rfl, hi, hfed⟩
  | cons slot slots ih =>
    intro s fed hcrc hi hfed
    obtain ⟨u, hu, hinputs, hcrcU⟩ := step_crc_eq_crc16 hcrc hi hfed
    have hbuild : u.build = s.build := step_build hu
    rw [← hbuild] at hcrc hcrcU
    obtain ⟨t, ht, hrest, hcrcT⟩ := ih u (fedAfter slot fed) hcrc hinputs hcrcU
    exact ⟨t, (run_succ_of_step (M := core) hu slots.length).trans ht, hrest, hbuild ▸ hcrcT⟩

/-! The check of a frame (40_crc16.md R105): the residue (R107), and a flipped bit (R108). -/

theorem framePasses_iff (b : Config.Build) (fed : List Byte) (r0 r1 : Byte) :
    FramePasses b fed r0 r1 ↔ crc16 b fed ^^^ (r1 ++ r0) = BitVec.allOnes 16 := by
  have hrx : r1 ++ r0 = (r1.setWidth 16 <<< 8 ||| r0.setWidth 16 : Half) := append_eq_shiftLeft_or r1 r0
  rw [FramePasses, ← hrx, xor_eq_iff_right_eq, BitVec.xor_allOnes, eq_comm]

/-- Settles O25: a frame passes when the accumulator XORed with RX is 0xFFFF, and sixteen shifts are one to one and take
0xFFFF to the residue. -/
theorem passingFrameLeavesTheResidue : Obligations.PassingFrameLeavesTheResidue := by
  intro b hb bs r0 r1
  have hresidue : crcStepBits 8 (crcStepBits 8 (BitVec.allOnes 16)) = 0xB001 := by decide +kernel
  have hfeed : crc16 b (bs ++ [r0, r1]) = crcStepDefault (crcStepDefault (crc16 b bs) r0) r1 := by
    rw [crc16_append, crcFold_cons, crcFold_cons, crcStepOf_default hb, crcStepOf_default hb]
    rfl
  rw [hfeed, crcStepDefault_crcStepDefault, ← hresidue, (crcStepBits_injective 8).eq_iff,
    (crcStepBits_injective 8).eq_iff, framePasses_iff]

theorem flipBit_ne {k : Nat} (hk : k < 8) (v : Byte) : flipBit v k ≠ v := by
  have hbit : ∀ k < 8, ((1 <<< k : Nat) : Byte) ≠ 0 := by decide
  rw [flipBit, ne_eq, xor_left_eq_self_iff]
  exact hbit k hk

/-- A frame with one bit flipped differs from the first in one byte. -/
theorem exists_byte_ne_of_oneBitFlipped {k : Nat} {fed fed' : List Byte} {r0 r1 r0' r1' : Byte} (hk : k < 8)
    (h : OneBitFlipped k fed r0 r1 fed' r0' r1') :
    ∃ before after v w, v ≠ w ∧
      fed' ++ [r0', r1'] = before ++ v :: after ∧ fed ++ [r0, r1] = before ++ w :: after := by
  obtain ⟨i, hi, rfl, rfl, rfl⟩ | ⟨rfl, rfl, rfl⟩ | ⟨rfl, rfl, rfl⟩ := h
  · refine ⟨fed.take i, fed.drop (i + 1) ++ [r0', r1'], _, fed[i], flipBit_ne hk _, ?_, ?_⟩
    · simp [List.set_eq_take_append_cons_drop, hi]
    · rw [← List.cons_append, ← List.drop_eq_getElem_cons hi, ← List.append_assoc, List.take_append_drop]
  · exact ⟨fed', [r1'], _, r0, flipBit_ne hk r0, rfl, rfl⟩
  · exact ⟨fed' ++ [r0'], [], _, r1, flipBit_ne hk r1, by simp, by simp⟩

theorem not_framePasses_of_oneBitFlipped {b : Config.Build} (hb : b.crcStepTable = []) {k : Nat}
    {fed fed' : List Byte} {r0 r1 r0' r1' : Byte} (hk : k < 8) (hflip : OneBitFlipped k fed r0 r1 fed' r0' r1')
    (hpass : FramePasses b fed r0 r1) : ¬ FramePasses b fed' r0' r1' := by
  intro hpass'
  obtain ⟨before, after, v, w, hne, hframe', hframe⟩ := exists_byte_ne_of_oneBitFlipped hk hflip
  rw [passingFrameLeavesTheResidue b hb, hframe] at hpass
  rw [passingFrameLeavesTheResidue b hb, hframe'] at hpass'
  exact crc16_ne_of_byte_ne hb hne before after (hpass'.trans hpass.symm)

/-- CRC_CHECK makes the check of the frame whose bytes were fed and received. -/
theorem checkPasses_iff_framePasses {s : State} {fed : List Byte} (hfed : s.crc = crc16 s.build fed) :
    checkPasses s = true ↔ s.build.crcPresent = false ∨ FramePasses s.build fed s.crcRx0 s.crcRx1 := by
  rw [FramePasses, ← hfed, checkPasses_iff]

/-- Settles O26: both frames would leave the residue, but one changed byte changes the CRC. -/
theorem singleFlippedBitFailsTheCheck : Obligations.SingleFlippedBitFailsTheCheck := by
  intro b hb k bs bs' r0 r1 r0' r1' hk hflip hpass
  have hfails := not_framePasses_of_oneBitFlipped hb hk hflip hpass
  refine ⟨hfails, ?_⟩
  rintro s rfl hfed rfl rfl
  have hiff := checkPasses_iff_framePasses hfed
  cases hcrc : s.build.crcPresent with
  | false =>
    exact ⟨_, exec_crcCheck_of_passes (hiff.mpr (.inl hcrc)), nofun, fun _ => ⟨rfl, rfl⟩⟩
  | true =>
    have hcheck : checkPasses s = false := by simp [← Bool.not_eq_true, hiff, hcrc, hfails]
    exact ⟨_, exec_crcCheck_of_fails hcheck, fun _ => ⟨rfl, rfl⟩, nofun⟩

end Sys2Proof.Machine

/-! PROOFS. The MAC unit (41_mac.md): the layout of the Authentication Message, the compression, the wire order of its
result, the MAC commands, and the MAC in flight. -/

namespace Sys2Proof.Machine

/-! The Authentication Message (41_mac.md R131, R132): `assembledMsg` and the layout. -/

theorem targetAddress_eq (s : State) :
    targetAddress s = (s.taddrHi.setWidth 16 <<< 8 ||| s.taddrLo.setWidth 16 : Half) :=
  append_eq_shiftLeft_or s.taddrHi s.taddrLo

/-- `assembledMsg` follows the layout: each row of it is one branch of the definition. -/
theorem msgLayout_assembledMsg (s : State) : MsgLayout s (assembledMsg s) where
  secretLow i h := by simp (disch := omega) [assembledMsg, dif_pos]
  page i h := by simp (disch := omega) [assembledMsg, dif_pos]
  spad i h := by simp (disch := omega) [assembledMsg, dif_pos, dif_neg]
  pageNumber := by
    rw [← targetAddress_eq]
    simp [assembledMsg, pageNumberByte]
  serial i h := by simp (disch := omega) [assembledMsg, dif_pos, dif_neg]
  secretHigh i h := by simp (disch := omega) [assembledMsg, dif_pos, dif_neg, if_neg, Nat.add_comm i]
  pad i h := by simp (disch := omega) [assembledMsg, dif_neg, if_neg]

/-- The formula of R132 keeps TADDR bits 7:5 alone, at bits 2:0: the mask drops TADDR_HI and the shift bits 4:0. -/
theorem pageNumberByte_append (hi lo : Byte) : pageNumberByte (hi ++ lo) = lo >>> 5 := by
  have hmask : (hi ++ lo : Half) &&& 0x00F0 = 0#8 ++ (lo &&& 0xF0) := by
    have happend : (0x00F0 : Half) = 0#8 ++ 0xF0#8 := rfl
    rw [happend, BitVec.and_append, BitVec.and_zero]
    rfl
  have hshift : ∀ lo : Byte, ((0#8 ++ (lo &&& 0xF0)) >>> 5).setWidth 8 = lo >>> 5 := by decide
  rw [pageNumberByte, hmask]
  exact hshift lo

theorem MsgLayout.pageNumber_eq {s : State} {m : Vector Byte 64} (h : MsgLayout s m) : m[40] = s.taddrLo >>> 5 := by
  rw [h.pageNumber, ← targetAddress_eq]
  exact pageNumberByte_append s.taddrHi s.taddrLo

/-- The layout's rows cover the message: two messages are equal when they agree row by row. -/
theorem msg_eq_of_rows {m m' : Vector Byte 64} (hsecretLow : ∀ i, (h : i < 4) → m[i] = m'[i])
    (hpage : ∀ i, (h : i < 28) → m[4 + i] = m'[4 + i]) (hspad : ∀ i, (h : i < 8) → m[32 + i] = m'[32 + i])
    (hpageNumber : m[40] = m'[40]) (hserial : ∀ i, (h : i < 7) → m[41 + i] = m'[41 + i])
    (hsecretHigh : ∀ i, (h : i < 4) → m[48 + i] = m'[48 + i])
    (hpad : ∀ i, (h : i < 12) → m[52 + i] = m'[52 + i]) : m = m' := by
  refine Vector.ext fun i hi => ?_
  by_cases h4 : i < 4
  · exact hsecretLow i h4
  by_cases h32 : i < 32
  · obtain ⟨j, rfl⟩ := Nat.exists_eq_add_of_le (not_lt.mp h4)
    exact hpage j (by omega)
  by_cases h40 : i < 40
  · obtain ⟨j, rfl⟩ := Nat.exists_eq_add_of_le (not_lt.mp h32)
    exact hspad j (by omega)
  by_cases h41 : i < 41
  · obtain rfl : i = 40 := by omega
    exact hpageNumber
  by_cases h48 : i < 48
  · obtain ⟨j, rfl⟩ := Nat.exists_eq_add_of_le (not_lt.mp h41)
    exact hserial j (by omega)
  by_cases h52 : i < 52
  · obtain ⟨j, rfl⟩ := Nat.exists_eq_add_of_le (not_lt.mp h48)
    exact hsecretHigh j (by omega)
  · obtain ⟨j, rfl⟩ := Nat.exists_eq_add_of_le (not_lt.mp h52)
    exact hpad j (by omega)

/-- Of one build, two messages of the layout are equal exactly when the inputs that reach them are (41_mac.md R149). -/
theorem MsgLayout.eq_iff {s s' : State} {m m' : Vector Byte 64} (h : MsgLayout s m) (h' : MsgLayout s' m')
    (hbuild : s.build = s'.build) :
    m = m' ↔ s.secret = s'.secret ∧ s.page = s'.page ∧ s.spad = s'.spad ∧
      (∀ i, (hi : i < 7) → s.serial[i] = s'.serial[i]) ∧ s.taddrLo >>> 5 = s'.taddrLo >>> 5 := by
  constructor
  · rintro rfl
    refine ⟨Vector.ext fun i hi => ?_, Vector.ext fun i hi => ?_, Vector.ext fun i hi => ?_, fun i hi => ?_,
      ?_⟩
    · by_cases h4 : i < 4
      · rw [← h.secretLow i h4, ← h'.secretLow i h4]
      · obtain ⟨j, rfl⟩ := Nat.exists_eq_add_of_le (not_lt.mp h4)
        rw [← h.secretHigh j (by omega), ← h'.secretHigh j (by omega)]
    · rw [← h.page i hi, ← h'.page i hi]
    · rw [← h.spad i hi, ← h'.spad i hi]
    · rw [← h.serial i hi, ← h'.serial i hi]
    · rw [← h.pageNumber_eq, ← h'.pageNumber_eq]
  · rintro ⟨hsecret, hpage, hspad, hserial, htaddr⟩
    refine msg_eq_of_rows (fun i hi => ?_) (fun i hi => ?_) (fun i hi => ?_) ?_ (fun i hi => ?_) (fun i hi => ?_)
      (fun i hi => ?_)
    · rw [h.secretLow i hi, h'.secretLow i hi, hsecret]
    · rw [h.page i hi, h'.page i hi, hpage]
    · rw [h.spad i hi, h'.spad i hi, hspad]
    · rw [h.pageNumber_eq, h'.pageNumber_eq, htaddr]
    · rw [h.serial i hi, h'.serial i hi, hserial i hi]
    · rw [h.secretHigh i hi, h'.secretHigh i hi, hsecret]
    · rw [h.pad i hi, h'.pad i hi, hbuild]

/-- The layout fixes all 64 bytes. -/
theorem MsgLayout.eq_assembledMsg {s : State} {m : Vector Byte 64} (h : MsgLayout s m) : m = assembledMsg s :=
  (h.eq_iff (msgLayout_assembledMsg s) rfl).mpr ⟨rfl, rfl, rfl, fun _ _ => rfl, rfl⟩

/-! The MAC commands (41_mac.md R140 to R142) while BUSY = 0 and while BUSY = 1. -/

theorem invalidateMac_storeMsg (m : Vector Byte 64) (s : State) :
    invalidateMac (storeMsg m s) = { s with msg := m, macValid := false } := rfl

theorem startMac_storeMsg (m : Vector Byte 64) (s : State) :
    startMac (storeMsg m s) = { s with msg := m, macValid := false, busy := true } := rfl

theorem unlessBusy_of_idle {s : State} (h : s.busy = false) (f : State → State) : unlessBusy f s = f s :=
  if_neg (by simp [h])

theorem unlessBusy_of_busy {s : State} (h : s.busy = true) (f : State → State) :
    unlessBusy f s = { s with errBusy := true } :=
  if_pos h

theorem exec_macAssemble_of_idle {s : State} (h : s.busy = false) :
    exec .macAssemble s = .next { s with msg := assembledMsg s, macValid := false } := by
  rw [exec_macAssemble, unlessBusy_of_idle h, assembleMsg_eq, invalidateMac_storeMsg]

theorem exec_macGen_eq_of_idle {s : State} (h : s.busy = false) :
    exec .macGen s = .next { s with msg := assembledMsg s, macValid := false, busy := true } := by
  rw [exec_macGen_of_idle h, assembleMsg_eq, startMac_storeMsg]

theorem exec_macAssemble_of_busy {s : State} (h : s.busy = true) :
    exec .macAssemble s = .next { s with errBusy := true } :=
  congrArg _ (unlessBusy_of_busy h _)

theorem exec_macRun_of_idle {s : State} (h : s.busy = false) :
    exec .macRun s = .next { s with macValid := false, busy := true } :=
  congrArg _ (unlessBusy_of_idle h startMac)

theorem exec_macRun_of_busy {s : State} (h : s.busy = true) : exec .macRun s = .next { s with errBusy := true } :=
  congrArg _ (unlessBusy_of_busy h _)

/-- Settles O28: MSG becomes `assembledMsg`, which follows the layout. -/
theorem macAssembleBuildsTheMessage : Obligations.MacAssembleBuildsTheMessage := by
  refine ⟨decode_command 0x10, fun s hidle => ?_, fun s => exec_macAssemble_of_busy, ?_⟩
  · exact ⟨_, msgLayout_assembledMsg s, exec_macAssemble_of_idle hidle⟩
  · exact ⟨_, exec_macAssemble_of_idle rfl, rfl, by decide⟩

/-- TADDR_LO is the low byte of TADDR (10_state.md R31). -/
theorem toNat_targetAddress_mod (s : State) : (targetAddress s).toNat % 0x100 = s.taddrLo.toNat := by
  have hlo := s.taddrLo.isLt
  rw [targetAddress, BitVec.toNat_append, ← Nat.shiftLeft_add_eq_or_of_lt hlo, Nat.shiftLeft_eq]
  omega

/-- Settles O29: MSG[40] is TADDR_LO shifted right by five. -/
theorem pageNumberByteIsTaddrBits7To5 : Obligations.PageNumberByteIsTaddrBits7To5 := by
  intro s hidle
  refine ⟨_, exec_macAssemble_of_idle hidle, ?_⟩
  have hbyte := (msgLayout_assembledMsg s).pageNumber_eq
  dsimp only
  rw [hbyte]
  refine ⟨?_, fun k _ => BitVec.getLsbD_ushiftRight .., fun k hk => ?_⟩
  · rw [toNat_targetAddress_mod, BitVec.toNat_ushiftRight, Nat.shiftRight_eq_div_pow]
  · rw [BitVec.getLsbD_ushiftRight]
    exact BitVec.getLsbD_of_ge _ _ (by omega)

/-- Settles O35: each MSG is the message of its inputs' layout. -/
theorem messageHoldsExactlyTheInputBitsOfTheLayout : Obligations.MessageHoldsExactlyTheInputBitsOfTheLayout := by
  intro s s' t t' hidle hidle' hbuild ht ht'
  rw [exec_macGen_eq_of_idle hidle] at ht
  rw [exec_macGen_eq_of_idle hidle'] at ht'
  obtain rfl := Host.Outcome.next.inj ht
  obtain rfl := Host.Outcome.next.inj ht'
  exact (msgLayout_assembledMsg s).eq_iff (msgLayout_assembledMsg s') hbuild

/-! MAC completion (41_mac.md R143). -/

theorem step_mac_of_busy {s : State} {rest : List Slot} (hbusy : s.busy = true)
    (hi : s.inputs = ⟨false, .mac⟩ :: rest) : step s = .next (completeMac (setInputs rest s)) := by
  rw [step_mac hi, macTurn_of_busy (s := setInputs rest s) hbusy]

theorem storeMac_setInputs (out : Vector Byte 20) (h : MacHidden) (l : List Slot) (s : State) :
    storeMac out h (setInputs l s) =
      { s with inputs := l, macout := out, busy := false, macValid := true, hidden := h } := rfl

/-- Settles O34: the MAC agent's turn is `completeMac`, and the reset event puts MACOUT and the flags at their reset
values. -/
theorem macCompletionWritesMacout : Obligations.MacCompletionWritesMacout := by
  intro s rest hbusy
  refine ⟨fun hi => ⟨finishedHidden s.msg, ?_⟩, fun turn hi => ⟨_, step_reset hi, rfl, rfl, rfl⟩⟩
  rw [step_mac_of_busy hbusy hi, completeMac_eq, storeMac_setInputs, setInputs_msg]

/-- The MAC of vector V1 of 95_test_vectors.md: every input register 0. -/
theorem macf_of_zero_inputs :
    macf (assembledMsg State.reset) = ⟨0x6E9625F9, 0xEFAC1849, 0xDE52CA50, 0x3DAE8E57, 0x2FA70690⟩ := by
  decide +kernel

/-- The MAC of vector V2 of 95_test_vectors.md, whose SERIAL and SPAD are not 0. -/
theorem macf_of_serial_and_spad :
    macf (assembledMsg { State.reset with
      spad := #v[1, 2, 3, 4, 5, 6, 7, 8], serial := #v[0x33, 0xA1, 0xB2, 0xC3, 0xD4, 0xE5, 0xF6, 0x07] })
    = ⟨0x60EB5957, 0x71A50B95, 0x1E7FCA50, 0x0D9EAEAE, 0x1DF82A61⟩ := by
  decide +kernel

/-- Settles O30: MAC_RUN leaves MSG, so completion gives the MAC of the MSG that stood. -/
theorem macRunStartsTheCompression : Obligations.MacRunStartsTheCompression := by
  refine ⟨decode_command 0x11, fun s => exec_macRun_of_idle, fun s => exec_macRun_of_busy,
    fun s t rest hidle ht => ?_, ?_⟩
  · rw [exec_macRun_of_idle hidle] at ht
    obtain rfl := Host.Outcome.next.inj ht
    exact ⟨_, step_mac_of_busy rfl rfl, rfl⟩
  · rw [macf_of_zero_inputs]
    decide

/-- Settles O31: MAC_GEN leaves the message of the layout in MSG, and completion its MAC in MACOUT. -/
theorem macGenAssemblesAndStarts : Obligations.MacGenAssemblesAndStarts := by
  refine ⟨decode_command 0x12, fun s hidle => ?_, fun s => exec_macGen_of_busy, fun s t rest hidle ht => ?_,
    fun m hm => ?_⟩
  · exact ⟨_, msgLayout_assembledMsg s, exec_macGen_eq_of_idle hidle⟩
  · rw [exec_macGen_eq_of_idle hidle] at ht
    obtain rfl := Host.Outcome.next.inj ht
    exact ⟨_, step_mac_of_busy rfl rfl, _, msgLayout_assembledMsg s, rfl⟩
  · rw [hm.eq_assembledMsg]
    exact macf_of_serial_and_spad

/-! The wire order of the result (41_mac.md R145). -/

theorem leByte32_eq (w : Word) (j : Nat) : leByte32 w j = (w >>> (8 * j)).setWidth 8 :=
  BitVec.setWidth_ushiftRight_eq_extractLsb.symm

/-- Byte 4k + j of the MAC is byte j of the k-th word sent. -/
theorem getElem_serializeMac (x : Work) {k j : Nat} (hk : k < 5) (hj : j < 4) :
    (serializeMac x)[4 * k + j] = ((wireWords x)[k] >>> (8 * j)).setWidth 8 := by
  have hword : (4 * k + j) / 4 = k := by omega
  have hbyte : (4 * k + j) % 4 = j := by omega
  simp [serializeMac, leByte32_eq, hword, hbyte]

/-- Settles O33: the five words sent are e, d, c, b and a. -/
theorem macoutIsInWireOrder : Obligations.MacoutIsInWireOrder := by
  intro s rest hbusy hi
  refine ⟨_, step_mac_of_busy hbusy hi, fun j hj => ⟨?_, ?_, ?_, ?_, ?_⟩⟩
  · simpa [wireWords] using getElem_serializeMac (macf s.msg) (k := 0) (by decide) hj
  · exact getElem_serializeMac (macf s.msg) (k := 1) (by decide) hj
  · exact getElem_serializeMac (macf s.msg) (k := 2) (by decide) hj
  · exact getElem_serializeMac (macf s.msg) (k := 3) (by decide) hj
  · exact getElem_serializeMac (macf s.msg) (k := 4) (by decide) hj

/-! The MAC in flight (41_mac.md R144): host transactions leave it, and the MAC agent completes it. -/

/-- While BUSY = 1 no instruction writes BUSY, MAC_VALID, MSG or MACOUT: the MAC commands are dropped. -/
theorem macFields_exec_of_busy {i : Instr} {s t : State} (hbusy : s.busy = true) (h : exec i s = .next t) :
    macFields t = macFields s := by
  cases i with
  | macAssemble | macRun | macGen =>
    obtain rfl := Host.Outcome.next.inj h
    rw [unlessBusy_of_busy hbusy]
    rfl
  | rd a =>
    obtain rfl := Host.Outcome.next.inj h
    exact ite_draw_eq (fun u => macFields (respond (readByte s a) u)) _ rfl
  | nop | crcInit | crcCheck | clrErr | cmdUndef | crcFeed | wr =>
    obtain rfl := Host.Outcome.next.inj h
    simp [macFields]

theorem macFields_step_host_of_busy {s : State} {w : BusWord} {rest : List Slot} (hbusy : s.busy = true)
    (hi : s.inputs = hostSlot w :: rest) : ∃ t, step s = .next t ∧ macFields t = macFields s ∧ t.inputs = rest := by
  obtain ⟨u, hu⟩ := exec_next (decode w) (clearResponse (setInputs rest s))
  have hfields : macFields u = macFields s := macFields_exec_of_busy (s := clearResponse (setInputs rest s)) hbusy hu
  refine ⟨_, (step_host hi).trans (hostTurn_of_exec hu), ?_, ?_⟩
  · rw [← hfields]
    simp [macFields]
  · rw [churnHidden_inputs, exec_inputs hu]
    rfl

/-- Settles O37: a host transaction keeps all four fields of the MAC in flight. -/
theorem hostTransactionsKeepTheMacInFlight : Obligations.HostTransactionsKeepTheMacInFlight := by
  intro s w rest hbusy hi
  obtain ⟨t, ht, hfields, hinputs⟩ := macFields_step_host_of_busy hbusy hi
  simp only [macFields, Prod.mk.injEq] at hfields
  obtain ⟨hbusyT, hvalid, hmsg, hmacout⟩ := hfields
  exact ⟨t, ht, hbusyT.trans hbusy, hmsg, hmacout, hvalid, hinputs⟩

/-- At its turn, or once the inputs are used up, the MAC agent completes the MAC in flight (log 2). -/
theorem step_completes_of_busy {s : State} {rest : List Slot} (hbusy : s.busy = true)
    (hi : s.inputs = ⟨false, .mac⟩ :: rest ∨ (rest = [] ∧ s.inputs = [])) :
    step s = .next (completeMac (setInputs rest s)) := by
  obtain hmac | ⟨rfl, hend⟩ := hi
  · exact step_mac_of_busy hbusy hmac
  · rw [step_nil hend, macTurn_of_busy hbusy, ← hend]
    rfl

/-- Settles O38, by induction on the host's words: each keeps the MAC in flight, and then the MAC agent completes it. -/
theorem macInFlightCompletesOverItsMessage : Obligations.MacInFlightCompletesOverItsMessage := by
  intro s words rest hbusy hi
  induction words generalizing s with
  | nil =>
    exact ⟨_, run_succ_of_step (M := core) (step_completes_of_busy hbusy hi) 0, rfl, rfl, rfl, rfl, rfl⟩
  | cons w words ih =>
    have hnext : ∃ after, s.inputs = hostSlot w :: after ∧
        (after = words.map hostSlot ++ ⟨false, .mac⟩ :: rest ∨ (rest = [] ∧ after = words.map hostSlot)) := by
      obtain hmac | ⟨hrest, hend⟩ := hi
      · exact ⟨_, hmac, .inl rfl⟩
      · exact ⟨_, hend, .inr ⟨hrest, rfl⟩⟩
    obtain ⟨after, hslot, hafter⟩ := hnext
    obtain ⟨u, hu, hfields, hinputs⟩ := macFields_step_host_of_busy hbusy hslot
    simp only [macFields, Prod.mk.injEq] at hfields
    obtain ⟨hbusyU, -, hmsgU, -⟩ := hfields
    obtain ⟨t, ht, hidle, hvalid, hmsg, hmacout, hrest⟩ := ih u (hbusyU.trans hbusy) (hinputs ▸ hafter)
    rw [hmsgU] at hmsg hmacout
    exact ⟨t, (run_succ_of_step (M := core) hu _).trans ht, hidle, hvalid, hmsg, hmacout, hrest⟩

/-! The compression (41_mac.md R133 to R138). -/

/-- `rotl32` is the rotation of the library (00_scope.md R12). -/
theorem rotl32_eq_rotateLeft (v : Word) {n : Nat} (h : n < 32) : rotl32 v n = v.rotateLeft n := by
  rw [BitVec.rotateLeft_def, Nat.mod_eq_of_lt h, rotl32]

theorem setWidth_append_eq_or {n m : Nat} (k : Nat) (x : BitVec n) (y : BitVec m) :
    (x ++ y).setWidth k = x.setWidth k <<< m ||| y.setWidth k := by
  refine BitVec.eq_of_getLsbD_eq fun i hi => ?_
  rw [BitVec.getLsbD_setWidth, BitVec.getLsbD_append, BitVec.getLsbD_or, BitVec.getLsbD_shiftLeft]
  by_cases hm : i < m
  · simp [hi, hm]
  · simp [hi, hm, BitVec.getLsbD_of_ge y i (not_lt.mp hm), show i - m < k by omega]

/-- `be32` as shifts (00_scope.md R12). -/
theorem be32_eq (b0 b1 b2 b3 : Byte) :
    be32 b0 b1 b2 b3 = b0.setWidth 32 <<< 24 ||| b1.setWidth 32 <<< 16 ||| b2.setWidth 32 <<< 8 ||| b3.setWidth 32 := by
  calc be32 b0 b1 b2 b3
      = (b0 ++ b1 ++ b2 ++ b3).setWidth 32 := (BitVec.setWidth_eq _).symm
    _ = _ := by
        rw [setWidth_append_eq_or, setWidth_append_eq_or, setWidth_append_eq_or]
        simp only [BitVec.shiftLeft_or_distrib, ← BitVec.shiftLeft_add]

/-- The schedule grows at its newest end. -/
theorem scheduleUpTo_suffix (m : Vector Byte 64) {n k : Nat} (h : n ≤ k) : scheduleUpTo m n <:+ scheduleUpTo m k := by
  induction k, h using Nat.le_induction with
  | base => exact List.suffix_rfl
  | succ k _ ih => exact ih.trans (List.suffix_cons _ _)

/-- Counted from the newest of its 16 + n words, a part of the schedule holds the words of the whole. -/
theorem getElem?_scheduleUpTo (m : Vector Byte 64) {n k : Nat} (hn : n ≤ 64) (hk : k < 16 + n) :
    (scheduleUpTo m n)[k]? = (schedule m)[15 + n - k]? := by
  obtain ⟨newer, hnewer⟩ := scheduleUpTo_suffix m hn
  have hlen := scheduleUpTo_length m n
  rw [schedule, ← hnewer, List.reverse_append, List.getElem?_append_left (by rw [List.length_reverse]; omega),
    List.getElem?_reverse (by omega)]
  congr 1
  omega

/-- Word t of the schedule (R134). -/
def scheduleWord (m : Vector Byte 64) (t : Nat) : Word := (schedule m).getD t 0

theorem getElem_schedule (m : Vector Byte 64) {t : Nat} (h : t < (schedule m).length) :
    (schedule m)[t] = scheduleWord m t := by
  rw [scheduleWord, List.getD_eq_getElem _ _ h]

theorem getD_scheduleUpTo (m : Vector Byte 64) {n k : Nat} (hn : n ≤ 64) (hk : k < 16 + n) :
    (scheduleUpTo m n).getD k 0 = scheduleWord m (15 + n - k) := by
  rw [scheduleWord, List.getD_eq_getElem?_getD, List.getD_eq_getElem?_getD, getElem?_scheduleUpTo m hn hk]

/-- The first sixteen words are those of the block. -/
theorem scheduleWord_of_lt (m : Vector Byte 64) {t : Nat} (h : t < 16) : scheduleWord m t = blockWord m ⟨t, h⟩ := by
  have hnewest := getD_scheduleUpTo m (n := 0) (k := 15 - t) (by decide) (by omega)
  rw [show 15 + 0 - (15 - t) = t by omega] at hnewest
  rw [← hnewest, scheduleUpTo, List.getD_eq_getElem?_getD, List.getElem?_reverse (by rw [List.length_ofFn]; omega),
    List.length_ofFn, show 16 - 1 - (15 - t) = t by omega, List.getElem?_ofFn, dif_pos h, Option.getD_some]

/-- The recurrence of the schedule. -/
theorem scheduleWord_of_ge (m : Vector Byte 64) {t : Nat} (hlo : 16 ≤ t) (hhi : t < 80) :
    scheduleWord m t = rotl32 (scheduleWord m (t - 3) ^^^ scheduleWord m (t - 8) ^^^
      scheduleWord m (t - 14) ^^^ scheduleWord m (t - 16)) 1 := by
  obtain ⟨n, rfl⟩ := Nat.exists_eq_add_of_le hlo
  have hword := getD_scheduleUpTo m (n := n + 1) (k := 0) (by omega) (by omega)
  rw [show 15 + (n + 1) - 0 = 16 + n by omega] at hword
  have holder {k : Nat} (hk : k < 16) : (scheduleUpTo m n).getD k 0 = scheduleWord m (16 + n - (k + 1)) := by
    rw [getD_scheduleUpTo m (by omega) (by omega)]
    congr 1
    omega
  rw [← hword, scheduleUpTo, List.getD_cons_zero, nextScheduleWord, holder (by decide), holder (by decide),
    holder (by decide), holder (by decide)]

theorem shaRounds_take_succ {ws : List Word} {t : Nat} (h : t < ws.length) (x : Work) :
    shaRounds (ws.take (t + 1)) 0 x = shaRound t ws[t] (shaRounds (ws.take t) 0 x) := by
  rw [List.take_succ_eq_append_getElem h, shaRounds_append, List.length_take_of_le h.le, Nat.zero_add]
  rfl

/-- The working variables before round t (R136). -/
def macWork (m : Vector Byte 64) (t : Nat) : Work := shaRounds ((schedule m).take t) 0 shaIv

theorem macWork_succ (m : Vector Byte 64) {t : Nat} (h : t < 80) :
    macWork m (t + 1) = shaRound t (scheduleWord m t) (macWork m t) := by
  have hlen : t < (schedule m).length := by rwa [schedule_length]
  rw [macWork, shaRounds_take_succ hlen, getElem_schedule]
  rfl

theorem macf_eq_macWork (m : Vector Byte 64) : macf m = macWork m 80 := by
  rw [macWork, List.take_of_length_le (schedule_length m).le]
  rfl

/-! A round (R136), with the library's rotation. -/

theorem shaRound_a (t : Nat) (w : Word) (x : Work) :
    (shaRound t w x).a = x.a.rotateLeft 5 + roundFn t x.b x.c x.d + x.e + roundConst t + w := by
  rw [← rotl32_eq_rotateLeft x.a (by decide)]
  rfl

theorem shaRound_c (t : Nat) (w : Word) (x : Work) : (shaRound t w x).c = x.b.rotateLeft 30 :=
  rotl32_eq_rotateLeft x.b (by decide)

/-- Settles O32: W is the schedule, and x the working variables before each round. -/
theorem macfIsEightyRoundsWithoutFeedForward : Obligations.MacfIsEightyRoundsWithoutFeedForward := by
  intro m
  refine ⟨scheduleWord m, macWork m, fun t ht => ?_, fun t hlo hhi => ?_, rfl, fun t ht => ?_, macf_eq_macWork m⟩
  · rw [scheduleWord_of_lt m ht, blockWord, be32_eq]
  · rw [scheduleWord_of_ge m hlo hhi, rotl32_eq_rotateLeft _ (by decide)]
  · rw [macWork_succ m ht, shaRound_a]
    refine ⟨rfl, rfl, shaRound_c .., rfl, fun h => ?_, fun hlo hhi => ?_, fun hlo hhi => ?_, fun hlo => ?_⟩
    · simp [roundFn, roundConst, h]
    · simp [roundFn, roundConst, hhi, show ¬ t < 20 by omega]
    · simp [roundFn, roundConst, hhi, show ¬ t < 20 by omega, show ¬ t < 40 by omega]
    · simp [roundFn, roundConst, show ¬ t < 20 by omega, show ¬ t < 40 by omega, show ¬ t < 60 by omega]

/-! The cross-check with standard SHA-1 (41_mac.md R139). -/

/-- The padding of 55 bytes: 0x80, no zero bytes, and the bit length 440. -/
theorem sha1Pad_of_length_55 {bs : List Byte} (h : bs.length = 55) :
    sha1Pad bs = bs ++ [0x80, 0x00, 0x00, 0x00, 0x00, 0x00, 0x00, 0x01, 0xB8] := by
  have hlength : sha1LengthBytes (8 * 55) = [0x00, 0x00, 0x00, 0x00, 0x00, 0x00, 0x01, 0xB8] := by decide
  rw [sha1Pad, h, hlength]
  simp

theorem sha1BlockAt_zero (m : Vector Byte 64) : sha1BlockAt m.toList 0 = m := by
  refine Vector.ext fun i hi => ?_
  simp [sha1BlockAt]

/-- SHA-1 of a byte string that pads to one block is one compression, with the feed-forward. -/
theorem sha1_of_sha1Pad_eq {bs : List Byte} {m : Vector Byte 64} (h : sha1Pad bs = m.toList) :
    sha1 bs = sha1Block shaIv m := by
  have hblocks : List.range (m.toList.length / 64) = [0] := by
    rw [Vector.length_toList]
    rfl
  rw [sha1, h, hblocks, List.foldl_cons, List.foldl_nil, sha1BlockAt_zero]

/-- From byte 55 on, a message of the layout is MAC_PAD from its fourth byte on. -/
theorem MsgLayout.drop_55 {s : State} {m : Vector Byte 64} (h : MsgLayout s m) :
    m.toList.drop 55 = s.build.macPad.toList.drop 3 := by
  refine List.ext_getElem (by simp) fun i hi _ => ?_
  have hlt : i < 9 := by simpa using hi
  have hpad := h.pad (3 + i) (by omega)
  simpa [← Nat.add_assoc] using hpad

/-- Settles O36: with the default MAC_PAD a message is the padded block of its first 55 bytes. -/
theorem sha1OfTheMessageIsMacfPlusIv : Obligations.Sha1OfTheMessageIsMacfPlusIv := by
  intro s t hidle hpad h
  rw [exec_macAssemble_of_idle hidle] at h
  obtain rfl := Host.Outcome.next.inj h
  have htail : (assembledMsg s).toList.drop 55 = [0x80, 0x00, 0x00, 0x00, 0x00, 0x00, 0x00, 0x01, 0xB8] := by
    rw [(msgLayout_assembledMsg s).drop_55, hpad]
    rfl
  have hblock : sha1Pad ((assembledMsg s).toList.take 55) = (assembledMsg s).toList := by
    rw [sha1Pad_of_length_55 (by simp), ← htail, List.take_append_drop]
  exact sha1_of_sha1Pad_eq hblock

end Sys2Proof.Machine

/-! PROOFS. The control transactions (42_control.md): NOP, CLR_ERR, and what WR and RD do at the address of each
byte. -/

namespace Sys2Proof.Machine

/-- Settles O14: 0x10000 is the write of code 0x00 to CMD. -/
theorem nopChangesNothing : Obligations.NopChangesNothing :=
  ⟨decode_command 0x00, exec_nop⟩

/-- The sticky error flags are bits 4, 5 and 6 of STATUS (10_state.md R24). -/
theorem statusByte_clearErrors (s : State) : statusByte (clearErrors s) = statusByte s &&& 0x8F := by
  have hmask : (0x8F : Byte) = BitVec.ofBool true ++ BitVec.ofBool false ++ BitVec.ofBool false ++ BitVec.ofBool false
    ++ BitVec.ofBool true ++ BitVec.ofBool true ++ BitVec.ofBool true ++ BitVec.ofBool true := rfl
  rw [hmask, statusByte, statusByte]
  iterate 7 rw [BitVec.and_append]
  simp only [BitVec.ofBool_and_ofBool, Bool.and_true, Bool.and_false]
  rfl

/-- Settles O15: CLR_ERR clears three bits of STATUS, and 0xF4 without them is 0x84. -/
theorem clrErrClearsTheErrorFlags : Obligations.ClrErrClearsTheErrorFlags := by
  refine ⟨decode_command 0x03, fun s => ⟨exec_clrErr s, fun hstatus => ?_⟩⟩
  calc statusByte (clearErrors s)
    _ = statusByte s &&& 0x8F := statusByte_clearErrors s
    _ = 0x84 := by rw [hstatus]; rfl

/-! WR and RD by the byte that the address names (42_control.md R182, R183). -/

theorem exec_wr_of_addressOf {l : Loc} {a : Addr} (h : addressOf l = some a) (s : State) (d : Byte) :
    exec (.wr a d) s = .next (writeLoc s d l) := by
  rw [exec_wr, writeByte, locate_of_addressOf h]

/-- A read returns the byte its address names, but for MACOUT while BUSY = 1 (20_memory.md R64). -/
theorem exec_rd_of_addressOf {l : Loc} {a : Addr} (h : addressOf l = some a) {s : State}
    (hfree : s.busy = true → ∀ i, l ≠ .macout i) :
    exec (.rd a) s = .next { s with rdata := some (readLoc s l) } := by
  have hloc : locate a = l := locate_of_addressOf h
  have hnot : readIsFree s a = false := by
    rw [← Bool.not_eq_true, readIsFree_iff, hloc]
    rintro ⟨hbusy, i, hi⟩
    exact hfree hbusy i hi
  rw [exec_rd_of_not_free hnot, readByte, hloc]

theorem exec_rd_of_ne_macout {l : Loc} {a : Addr} (h : addressOf l = some a) (hl : ∀ i, l ≠ .macout i) (s : State) :
    exec (.rd a) s = .next { s with rdata := some (readLoc s l) } :=
  exec_rd_of_addressOf h fun _ => hl

theorem exec_rd_macout_of_idle {s : State} (h : s.busy = false) (i : Fin 20) :
    exec (.rd (BitVec.ofNat 8 (0xC0 + i))) s = .next { s with rdata := some s.macout[i] } := by
  have hbyte : readLoc s (.macout i) = s.macout[i] := by
    rw [readLoc, h]
    rfl
  rw [exec_rd_of_addressOf (l := .macout i) rfl (by simp [h]), hbyte]

theorem exec_rd_macout_of_busy {s : State} (h : s.busy = true) (i : Fin 20) :
    exec (.rd (BitVec.ofNat 8 (0xC0 + i))) s
      = .next { s with rdata := some (Config.freeByte s.draws), draws := s.draws + 1 } :=
  exec_rd_of_free ((readIsFree_iff s _).mpr ⟨h, i, locate_of_addressOf rfl⟩)

/-- Settles O17: each read/write register by the address of its byte, and every other address by its access code. -/
theorem wrStoresInReadWriteRegistersOnly : Obligations.WrStoresInReadWriteRegistersOnly := by
  refine ⟨decode_write, decode_write 0x10 0xAA (by decide) (by decide),
    decode_write 0x80 0x55 (by decide) (by decide),
    fun s d => ⟨?crcRx0, ?crcRx1, ?secret, ?serial, ?spad, ?taddrLo, ?taddrHi, ?page, ?elsewhere⟩⟩
  case crcRx0 => exact exec_wr_of_addressOf (l := .crcRx0) rfl s d
  case crcRx1 => exact exec_wr_of_addressOf (l := .crcRx1) rfl s d
  case secret => exact fun i => exec_wr_of_addressOf (l := .secret i) rfl s d
  case serial => exact fun i => exec_wr_of_addressOf (l := .serial i) rfl s d
  case spad => exact fun i => exec_wr_of_addressOf (l := .spad i) rfl s d
  case taddrLo => exact exec_wr_of_addressOf (l := .taddrLo) rfl s d
  case taddrHi => exact exec_wr_of_addressOf (l := .taddrHi) rfl s d
  case page => exact fun i => exec_wr_of_addressOf (l := .page i) rfl s d
  case elsewhere =>
    intro a _ _ hnot
    have hacc : accessOf (locate a) ≠ .readWrite := by simp [accessOf_locate_eq_readWrite_iff, hnot]
    exact exec_wr_of_not_readWrite hacc s d

/-- Settles O18: each register by the address of its byte; the reserved and the MACOUT addresses apart. -/
theorem rdReturnsTheNamedByte : Obligations.RdReturnsTheNamedByte := by
  refine ⟨decode_read, decode_read 0x01 0x00, ⟨_, exec_rd_of_ne_macout (l := .status) rfl nofun State.reset, rfl⟩,
    fun s => ⟨?cmd, ?crcDin, ?reserved, ?status, ?crcLo, ?crcHi, ?crcRx0, ?crcRx1, ?secret, ?serial, ?spad, ?taddrLo,
      ?taddrHi, ?page, ?msg, ?macoutIdle, ?macoutBusy⟩⟩
  case cmd => exact exec_rd_of_ne_macout (l := .cmd) rfl nofun s
  case crcDin => exact exec_rd_of_ne_macout (l := .crcDin) rfl nofun s
  case reserved => exact fun a ha => exec_rd_of_reserved ((locate_eq_reserved_iff a).mpr ha) s
  case status => exact exec_rd_of_ne_macout (l := .status) rfl nofun s
  case crcLo => exact exec_rd_of_ne_macout (l := .crcLo) rfl nofun s
  case crcHi => exact exec_rd_of_ne_macout (l := .crcHi) rfl nofun s
  case crcRx0 => exact exec_rd_of_ne_macout (l := .crcRx0) rfl nofun s
  case crcRx1 => exact exec_rd_of_ne_macout (l := .crcRx1) rfl nofun s
  case secret => exact fun i => exec_rd_of_ne_macout (l := .secret i) rfl nofun s
  case serial => exact fun i => exec_rd_of_ne_macout (l := .serial i) rfl nofun s
  case spad => exact fun i => exec_rd_of_ne_macout (l := .spad i) rfl nofun s
  case taddrLo => exact exec_rd_of_ne_macout (l := .taddrLo) rfl nofun s
  case taddrHi => exact exec_rd_of_ne_macout (l := .taddrHi) rfl nofun s
  case page => exact fun i => exec_rd_of_ne_macout (l := .page i) rfl nofun s
  case msg => exact fun i => exec_rd_of_ne_macout (l := .msg i) rfl nofun s
  case macoutIdle => exact fun i hidle => exec_rd_macout_of_idle hidle i
  case macoutBusy => exact fun i hbusy => ⟨_, _, exec_rd_macout_of_busy hbusy i⟩

end Sys2Proof.Machine

/-! PROOFS. Errors (60_exceptions.md): what keeps and clears a sticky error flag, what raises it, and both orders of
MAC completion and a host access. -/

namespace Sys2Proof.Machine

/-! The error flags after each operation (60_exceptions.md R201, R202). -/

theorem errorFlag_recordError (c e : ErrorCondition) (s : State) :
    errorFlag (recordError c s) e = (decide (e = c) || errorFlag s e) := by
  cases c <;> cases e <;> rfl

/-- A CRC_CHECK clears no error flag, whether it passes or not (60_exceptions.md R202). -/
theorem errorFlag_recordCheck_of_set {s : State} {e : ErrorCondition} (ok : Bool) (hs : errorFlag s e = true) :
    errorFlag (recordCheck ok s) e = true := by
  obtain ⟨-, h⟩ | ⟨-, h⟩ := recordCheck_cases ok s <;> rw [h]
  · cases e <;> exact hs
  · cases e with
    | crc => rfl
    | cmd | busy => exact hs

theorem errorFlag_unlessBusy_of_set {f : State → State} {s : State} {e : ErrorCondition}
    (haccepted : errorFlag (f s) e = errorFlag s e) (hs : errorFlag s e = true) :
    errorFlag (unlessBusy f s) e = true := by
  obtain ⟨-, h⟩ | ⟨-, h⟩ := unlessBusy_cases f s <;> rw [h]
  · rw [errorFlag_recordError, hs, Bool.or_true]
  · exact haccepted.trans hs

@[simp] theorem errorFlag_clearErrors (s : State) (e : ErrorCondition) : errorFlag (clearErrors s) e = false := by
  cases e <;> rfl

@[simp] theorem errorFlag_resetEvent (s : State) (e : ErrorCondition) : errorFlag (resetEvent s) e = false := by
  cases e <;> rfl

@[simp] theorem errorFlag_churnHidden (s : State) (e : ErrorCondition) :
    errorFlag (churnHidden s) e = errorFlag s e := by
  cases e <;> simp [errorFlag]

/-- The MAC agent neither raises nor clears an error flag (60_exceptions.md R201, R202). -/
@[simp] theorem errorFlag_macTurn (s : State) (e : ErrorCondition) : errorFlag (macTurn s) e = errorFlag s e := by
  obtain ⟨-, h⟩ | ⟨-, h⟩ := macTurn_cases s <;> rw [h]
  cases e <;> simp [errorFlag]

@[simp] theorem errorFlag_setInputs (l : List Slot) (s : State) (e : ErrorCondition) :
    errorFlag (setInputs l s) e = errorFlag s e := rfl

@[simp] theorem errorFlag_clearResponse (s : State) (e : ErrorCondition) :
    errorFlag (clearResponse s) e = errorFlag s e := rfl

/-- A transaction starts with the slot taken off and no RDATA, and no cause speaks of these. -/
theorem errorCause_clearResponse_setInputs (l : List Slot) (s : State) (i : Instr) (e : ErrorCondition) :
    ErrorCause (clearResponse (setInputs l s)) i e ↔ ErrorCause s i e := by
  cases e <;> exact Iff.rfl

/-! What keeps an error flag, and what clears it. -/

/-- CLR_ERR alone of the instructions clears an error flag. -/
theorem errorFlag_exec_of_set {i : Instr} {s t : State} {e : ErrorCondition} (h : exec i s = .next t)
    (hclr : i ≠ .clrErr) (hs : errorFlag s e = true) : errorFlag t e = true := by
  cases i with obtain rfl := Host.Outcome.next.inj h
  | clrErr => exact absurd rfl hclr
  | nop => exact hs
  | crcCheck => exact errorFlag_recordCheck_of_set _ hs
  | macAssemble | macRun | macGen =>
    exact errorFlag_unlessBusy_of_set (by cases e <;> simp [errorFlag]) hs
  | cmdUndef c => rw [errorFlag_recordError, hs, Bool.or_true]
  | rd a => exact (ite_draw_eq (fun u => errorFlag u e) _ rfl).trans hs
  | crcInit | crcFeed | wr => cases e <;> simpa [errorFlag] using hs

theorem errorFlag_step_clrErr {s : State} {w : BusWord} {rest : List Slot} (hw : decode w = .clrErr)
    (hi : s.inputs = hostSlot w :: rest) (e : ErrorCondition) : ∃ t, step s = .next t ∧ errorFlag t e = false := by
  have hexec : exec (decode w) (clearResponse (setInputs rest s)) =
      .next (clearErrors (clearResponse (setInputs rest s))) := by
    rw [hw, exec_clrErr]
  exact ⟨_, (step_host hi).trans (hostTurn_of_exec hexec), by simp⟩

/-- Settles O41: of the four kinds of step the reset event and the transaction CLR_ERR alone clear a flag. -/
theorem errorFlagsStayUntilClrErrOrReset : Obligations.ErrorFlagsStayUntilClrErrOrReset := by
  refine ⟨fun s t e hs h hkeeps => ?stays, fun s rest e hclears => ?cleared, fun s => ?crcOk⟩
  case stays =>
    obtain ⟨-, rfl⟩ | ⟨turn, rest, hi, rfl⟩ | ⟨rest, -, rfl⟩ | ⟨w, rest, u, hi, hu, rfl⟩ := step_cases h
    · rw [errorFlag_macTurn, hs]
    · obtain ⟨hreset, -⟩ := hkeeps ⟨true, turn⟩ (by rw [hi]; rfl)
      cases hreset
    · rw [errorFlag_macTurn, errorFlag_setInputs, hs]
    · obtain ⟨-, hclr⟩ := hkeeps ⟨false, .host w⟩ (by rw [hi]; rfl)
      rw [errorFlag_churnHidden]
      exact errorFlag_exec_of_set hu (hclr w rfl) hs
  case cleared =>
    obtain ⟨w, hw, hi⟩ | ⟨turn, hi⟩ := hclears
    · exact errorFlag_step_clrErr hw hi e
    · exact ⟨_, step_reset hi, errorFlag_resetEvent _ e⟩
  case crcOk =>
    refine ⟨_, exec_crcCheck s, ?_⟩
    rw [recordCheck_crcOk, checkPasses_iff]

/-! What raises an error flag, and what it leaves. -/

/-- A step that raises an error flag is a host transaction with that flag's cause (60_exceptions.md R201). -/
theorem errorCause_of_step {s t : State} {e : ErrorCondition} (h : step s = .next t) (hclear : errorFlag s e = false)
    (hset : errorFlag t e = true) : ∃ w rest, s.inputs = hostSlot w :: rest ∧ ErrorCause s (decode w) e := by
  obtain ⟨-, rfl⟩ | ⟨turn, rest, -, rfl⟩ | ⟨rest, -, rfl⟩ | ⟨w, rest, u, hi, hu, rfl⟩ := step_cases h
  · rw [errorFlag_macTurn, hclear] at hset
    cases hset
  · rw [errorFlag_resetEvent] at hset
    cases hset
  · rw [errorFlag_macTurn, errorFlag_setInputs, hclear] at hset
    cases hset
  · rw [errorFlag_churnHidden] at hset
    obtain hbefore | hcause := errorFlag_exec hu hset
    · rw [errorFlag_clearResponse, errorFlag_setInputs, hclear] at hbefore
      cases hbefore
    · exact ⟨w, rest, hi, (errorCause_clearResponse_setInputs rest s _ e).mp hcause⟩

theorem exec_of_errorCause {i : Instr} {s : State} {e : ErrorCondition} (h : ErrorCause s i e) :
    exec i s = .next (afterError s e) := by
  cases e with
  | crc =>
    obtain ⟨rfl, hfail⟩ := h
    exact exec_crcCheck_of_fails ((checkPasses_eq_false_iff s).mpr hfail)
  | cmd =>
    obtain ⟨c, rfl⟩ := h
    exact exec_cmdUndef c s
  | busy =>
    obtain ⟨rfl | rfl | rfl, hbusy⟩ := h
    · exact exec_macAssemble_of_busy hbusy
    · exact exec_macRun_of_busy hbusy
    · exact exec_macGen_of_busy hbusy

/-- Settles O42: no step but a transaction with the cause raises a flag, each cause leaves its flag alone, and the
flags are bits 4 to 6 of STATUS. -/
theorem errorFlagsRiseOnlyForTheirCause : Obligations.ErrorFlagsRiseOnlyForTheirCause := by
  refine ⟨fun s t e hclear h hset => errorCause_of_step h hclear hset, fun s w e => exec_of_errorCause, fun s => ?_⟩
  obtain ⟨-, -, -, -, hcrc, hcmd, hbusy, -⟩ := statusReadsItsEightFields s
  exact ⟨hcrc, hcmd, hbusy, rfl, rfl, rfl⟩

/-- The one error condition that an instruction can be the cause of (60_exceptions.md R203). -/
def errorOf : Instr → Option ErrorCondition
  | .crcCheck => some .crc
  | .cmdUndef _ => some .cmd
  | .macAssemble | .macRun | .macGen => some .busy
  | .nop | .crcInit | .clrErr | .crcFeed _ | .wr _ _ | .rd _ => none

theorem errorOf_of_errorCause {s : State} {i : Instr} {e : ErrorCondition} (h : ErrorCause s i e) :
    errorOf i = some e := by
  cases e with
  | crc =>
    obtain ⟨rfl, -⟩ := h
    rfl
  | cmd =>
    obtain ⟨c, rfl⟩ := h
    rfl
  | busy => obtain ⟨rfl | rfl | rfl, -⟩ := h <;> rfl

theorem errorCause_of_exec {i : Instr} {s t : State} {e : ErrorCondition} (h : exec i s = .next t)
    (hclear : errorFlag s e = false) (hset : errorFlag t e = true) : ErrorCause s i e :=
  (errorFlag_exec h hset).resolve_left (by simp [hclear])

/-- Settles O43: a raised flag has the instruction as its cause, and an instruction is the cause of one condition. -/
theorem oneTransactionSetsAtMostOneErrorFlag : Obligations.OneTransactionSetsAtMostOneErrorFlag := by
  intro i s t h e e' hclear hset hclear' hset'
  have he : errorOf i = some e := errorOf_of_errorCause (errorCause_of_exec h hclear hset)
  have he' : errorOf i = some e' := errorOf_of_errorCause (errorCause_of_exec h hclear' hset')
  exact Option.some.inj (he.symm.trans he')

/-! MAC completion and a STATUS read in either order (60_exceptions.md R203). -/

theorem run_one_of_step {s t : State} (h : step s = .next t) : core.run 1 s = .next t :=
  run_succ_of_step (M := core) (s := s) (u := t) h 0

theorem run_two_of_steps {s t u : State} (h : step s = .next t) (h' : step t = .next u) : core.run 2 s = .next u :=
  (run_succ_of_step (M := core) (s := s) (u := t) h 1).trans (run_one_of_step h')

/-- A STATUS read returns BUSY as bit 0, and leaves BUSY, MSG and MACOUT as they were. -/
theorem step_statusRead {s : State} {rest : List Slot} (hi : s.inputs = hostSlot 0x00100 :: rest) :
    ∃ t, step s = .next t ∧ (∃ r, t.rdata = some r ∧ r.getLsbD 0 = s.busy) ∧ t.inputs = rest ∧
      t.busy = s.busy ∧ t.msg = s.msg ∧ t.macout = s.macout := by
  have hread : exec (decode 0x00100) (clearResponse (setInputs rest s)) =
      .next (respond (statusByte s) (setInputs rest s)) := by
    rw [show decode 0x00100 = .rd 0x01 from decode_read 0x01 0x00]
    exact exec_rd_of_ne_macout (l := .status) rfl nofun (clearResponse (setInputs rest s))
  obtain ⟨hbit, -⟩ := statusReadsItsEightFields s
  exact ⟨_, (step_host hi).trans (hostTurn_of_exec hread), ⟨statusByte s, by simp, hbit⟩,
    by simp, by simp, by simp, by simp⟩

/-- Settles O50: the read leaves the MAC in flight and its message, and completion leaves the MAC of that message. -/
theorem bothOrdersOfCompletionAndReadAreAdmitted : Obligations.BothOrdersOfCompletionAndReadAreAdmitted := by
  intro s rest hbusy
  obtain ⟨t, hread, ⟨r, hr, hbit⟩, hinputs, hbusyT, hmsgT, -⟩ :=
    step_statusRead (s := setInputs (hostSlot 0x00100 :: ⟨false, .mac⟩ :: rest) s) rfl
  have hcomplete : step t = .next (completeMac (setInputs rest t)) :=
    step_mac_of_busy (hbusyT.trans hbusy) hinputs
  have hcompleteFirst : step (setInputs (⟨false, .mac⟩ :: hostSlot 0x00100 :: rest) s) =
      .next (completeMac (setInputs (hostSlot 0x00100 :: rest) s)) := step_mac_of_busy hbusy rfl
  obtain ⟨v, hreadAfter, ⟨r', hr', hbit'⟩, -, hbusyV, -, hmacoutV⟩ :=
    step_statusRead (s := completeMac (setInputs (hostSlot 0x00100 :: rest) s)) rfl
  have hmacout : (completeMac (setInputs rest t)).macout = v.macout := by
    calc (completeMac (setInputs rest t)).macout
      _ = serializeMac (macf t.msg) := rfl
      _ = serializeMac (macf s.msg) := by rw [hmsgT, setInputs_msg]
      _ = v.macout := hmacoutV.symm
  exact ⟨t, _, v, run_one_of_step hread, ⟨r, hr, hbit.trans hbusy⟩, run_two_of_steps hread hcomplete,
    run_two_of_steps hcompleteFirst hreadAfter, ⟨r', hr', hbit'⟩, hmacout, rfl, hbusyV⟩

end Sys2Proof.Machine

/-! PROOFS. Reset and the end of a run (70_reset_and_hazards.md): the reset values, what the host reads of them, and
that an end state stays. -/

namespace Sys2Proof.Machine

/-! The end of a run (70_reset_and_hazards.md R240). -/

/-- A state that a step leaves as it is stays for any number of steps. -/
theorem run_of_step_self {M : Host.Core} {s : M.State} (h : M.step s = .next s) (n : Nat) : M.run n s = .next s := by
  induction n with
  | zero => rfl
  | succ n ih => exact (run_succ_of_step h n).trans ih

theorem step_of_ended {s : State} (h : Ended s) : step s = .next s := by
  obtain ⟨hi, hidle⟩ := h
  rw [step_nil hi, macTurn_of_idle hidle]

/-- Settles O51: a step leaves an end state as it is, and with no input to come a busy state's step is MAC
completion. -/
theorem endedRunStaysAsItIs : Obligations.EndedRunStaysAsItIs := by
  refine ⟨fun s hs n => run_of_step_self (M := core) (step_of_ended hs) n, fun s hi hbusy => ?_⟩
  have hcomplete : step s = .next (completeMac (setInputs [] s)) := step_completes_of_busy hbusy (.inr ⟨rfl, hi⟩)
  exact ⟨_, hcomplete, rfl, rfl⟩

/-! The reset values (70_reset_and_hazards.md R230), of power-on and of the reset event. -/

theorem statusByte_powerOn (b : Config.Build) :
    statusByte (powerOn b) = if b.crcPresent then 0x80 else 0x00 := by
  simp only [statusByte, powerOn]
  cases b.crcPresent <;> rfl

theorem atResetValues_powerOn (b : Config.Build) : AtResetValues (powerOn b) where
  status := statusByte_powerOn b
  crc := rfl
  crcRx := ⟨rfl, rfl⟩
  secret := rfl
  serial := rfl
  spad := rfl
  taddr := ⟨rfl, rfl⟩
  page := rfl
  msg := rfl
  macout := rfl
  pending := rfl

/-- A reset event sets the registers as power-on does; what it leaves or draws is none of them (log 14). -/
theorem atResetValues_resetEvent (s : State) : AtResetValues (resetEvent s) :=
  { atResetValues_powerOn s.build with }

/-- Settles O48: power-on sets the values of the table, and a reset slot, whoever's turn it was, is a reset event. -/
theorem resetEventSetsEveryRegister : Obligations.ResetEventSetsEveryRegister :=
  ⟨fun b => ⟨rfl, atResetValues_powerOn b⟩,
    fun s _ rest hi => ⟨_, step_reset hi, rfl, rfl, atResetValues_resetEvent (setInputs rest s)⟩⟩

/-- Settles O54: power-on sets no flag, so each clause asks nothing or holds of clear flags. -/
theorem powerOnMeetsTheInvariant : Obligations.PowerOnMeetsTheInvariant := fun _ =>
  { okIsChecked := nofun
    busyNotValid := nofun
    validMac := nofun
    checkPassesWithoutCrc := fun _ => ⟨rfl, rfl⟩ }

/-! What the host reads at the reset values. -/

theorem busy_eq_false_of_pendingMac_none {s : State} (h : pendingMac s = none) : s.busy = false := by
  simpa [pendingMac] using h

/-- At the reset values every byte but STATUS reads 0x00. -/
theorem AtResetValues.readLoc_eq_zero {s : State} (h : AtResetValues s) {l : Loc} (hl : l ≠ .status) :
    readLoc s l = 0x00 := by
  cases l with
  | status => exact absurd rfl hl
  | cmd | crcDin | reserved => rfl
  | crcLo | crcHi => simp [readLoc, h.crc]
  | crcRx0 => exact h.crcRx.1
  | crcRx1 => exact h.crcRx.2
  | taddrLo => exact h.taddr.1
  | taddrHi => exact h.taddr.2
  | secret i => simp [readLoc, h.secret]
  | serial i => simp [readLoc, h.serial]
  | spad i => simp [readLoc, h.spad]
  | page i => simp [readLoc, h.page]
  | msg i => simp [readLoc, h.msg]
  | macout i => simp [readLoc, h.macout, busy_eq_false_of_pendingMac_none h.pending]

theorem locate_eq_status_iff (a : Addr) : locate a = .status ↔ a = 0x01 := by
  have hstatus : locate 0x01 = .status := locate_of_addressOf rfl
  refine ⟨fun h => ?_, fun h => h ▸ hstatus⟩
  by_contra hne
  exact locate_ne_of_ne (hstatus ▸ nofun) hne (h.trans hstatus.symm)

/-- Settles O49: the default build is at its reset values, where only the byte at 0x01, STATUS, reads other than
0x00. -/
theorem resetStateReadsAsTheSpecSays : Obligations.ResetStateReadsAsTheSpecSays := by
  have hreset : AtResetValues State.reset := atResetValues_powerOn defaultBuild
  exact ⟨hreset.status, fun a ha => hreset.readLoc_eq_zero (mt (locate_eq_status_iff a).mp ha), hreset.pending⟩

end Sys2Proof.Machine

/-! PROOFS. The MAC vectors of 95_test_vectors.md. V1 and V2 stand beside the MAC commands, whose statements use
them too; here is V10, whose message is the MSG that reset leaves. -/

namespace Sys2Proof.Machine

/-- The MAC of vector V10: MSG is 64 zero bytes, with no marker byte, pad or length of an assembled message. -/
theorem macf_of_zero_msg :
    macf (Vector.replicate 64 0x00) = ⟨0x2B6EE1E4, 0x668AE164, 0xD35FF050, 0xAED2EAF2, 0x462458A3⟩ := by
  decide +kernel

/-- Settles O39: each vector is an evaluation of the eighty rounds; reset leaves the zero message of V10 in MSG. -/
theorem macVectorsOfTheSpecHold : Obligations.MacVectorsOfTheSpecHold := by
  have hmsg : State.reset.msg = Vector.replicate 64 0x00 := (atResetValues_powerOn defaultBuild).msg
  refine ⟨macf_of_zero_inputs, macf_of_serial_and_spad, ?_⟩
  rw [hmsg]
  exact macf_of_zero_msg

end Sys2Proof.Machine
